-- ==== Sys2Proof/Word.lean ====
section
/-! DEFINITION. The word types of the machine: `u8` and `u16` of 00_scope.md rule R7. -/

namespace Sys2Proof

/-- `u8`: a register, a memory byte, an operand byte (R6, R7). -/
abbrev Byte := BitVec 8

/-- `u16`: an address or a program-counter value (R6, R7). -/
abbrev Addr := BitVec 16

end Sys2Proof
end

