-- ==== Sys2Proof/Machine/Bytes.lean ====
section
/-! DEFINITION. Byte order, extension and field helpers (00_scope.md rules R7 and R8). -/

namespace Sys2Proof

/-- `hi:lo` is `hi * 256 + lo` (R7). -/
def join (hi lo : Byte) : Addr := BitVec.ofNat 16 (hi.toNat * 256 + lo.toNat)

/-- `w[7:0]` (R7). -/
def lowByte (w : Addr) : Byte := BitVec.ofNat 8 w.toNat

/-- `w[15:8]` (R7). -/
def highByte (w : Addr) : Byte := BitVec.ofNat 8 (w.toNat / 256)

/-- `zext_16(v)` (R8). -/
def zext16 (v : Byte) : Addr := BitVec.ofNat 16 v.toNat

/-- `signed8(v)`: the byte read as two's complement, -128..127 (R8). -/
def signed8 (v : Byte) : Int := if v.toNat < 128 then v.toNat else (v.toNat : Int) - 256

/-- The byte that stands for a signed offset in -128..127: the inverse of `signed8` (R86, R90). -/
def offsetByte (offset : Int) : Byte := BitVec.ofInt 8 offset

/-- A signed offset as the 16-bit two's-complement number `sext_16` gives (R8, R86). -/
def offsetWord (offset : Int) : Addr := BitVec.ofInt 16 offset

end Sys2Proof
end

