-- ==== Sys2Proof/Syntax.lean ====
section
/-! DEFINITION. The instructions: the 56 mnemonics (00_scope.md R13), the 13 addressing modes (30_encoding.md R92), the
operand forms, and `Instr`, one constructor for each of the 151 rows of the opcode map (30_encoding.md R87). -/

namespace Sys2Proof

/-- The 56 mnemonics (R1, R13). -/
inductive Mnemonic where
  | lda | ldx | ldy | tax | tay | txa | tya | tsx | txs
  | sta | stx | sty
  | adc | sbc | and | ora | eor
  | asl | lsr | rol | ror
  | inc | dec | inx | iny | dex | dey
  | cmp | cpx | cpy | bit
  | clc | sec | cli | sei | cld | sed | clv
  | bpl | bmi | bvc | bvs | bcc | bcs | bne | beq
  | jmp | jsr | rts | pha | pla | php | plp | brk | rti | nop
deriving DecidableEq, Repr

/-- The closed set of 13 addressing modes (R82, R92). -/
inductive Mode where
  | implied | accumulator | immediate
  | zeroPage | zeroPageX | zeroPageY
  | absolute | absoluteX | absoluteY
  | indexedIndirect | indirectIndexed
  | indirect | relative
deriving DecidableEq, Repr

/-- The operand forms that name a byte of memory: the eight modes `EA` is defined for (40_addressing_modes.md R115). -/
inductive MemOperand where
  | zeroPage (b1 : Byte)
  | zeroPageX (b1 : Byte)
  | zeroPageY (b1 : Byte)
  | absolute (addr : Addr)
  | absoluteX (base : Addr)
  | absoluteY (base : Addr)
  | indexedIndirect (b1 : Byte)
  | indirectIndexed (b1 : Byte)
deriving DecidableEq, Repr

/-- The forms of a value-only operand, `Operand(mode)` (R114). -/
inductive ReadOperand where
  | immediate (b1 : Byte)
  | memory (m : MemOperand)
deriving DecidableEq, Repr

/-- The forms of a read-modify-write operand, `Loc(mode)` (R116). -/
inductive RmwOperand where
  | accumulator
  | memory (m : MemOperand)
deriving DecidableEq, Repr

/-- Any instruction's operand: its mode together with what the operand bytes say. -/
inductive Form where
  | implied
  | accumulator
  | immediate (b1 : Byte)
  | memory (m : MemOperand)
  | indirect (pointer : Addr)
  | relative (offset : Int)
deriving DecidableEq, Repr

/-- The mode of a memory operand. -/
def MemOperand.mode : MemOperand → Mode
  | .zeroPage _ => .zeroPage
  | .zeroPageX _ => .zeroPageX
  | .zeroPageY _ => .zeroPageY
  | .absolute _ => .absolute
  | .absoluteX _ => .absoluteX
  | .absoluteY _ => .absoluteY
  | .indexedIndirect _ => .indexedIndirect
  | .indirectIndexed _ => .indirectIndexed

/-- The mode of a form. -/
def Form.mode : Form → Mode
  | .implied => .implied
  | .accumulator => .accumulator
  | .immediate _ => .immediate
  | .memory m => m.mode
  | .indirect _ => .indirect
  | .relative _ => .relative

/-- A value-only operand as a form. -/
def ReadOperand.form : ReadOperand → Form
  | .immediate b1 => .immediate b1
  | .memory m => .memory m

/-- A read-modify-write operand as a form. -/
def RmwOperand.form : RmwOperand → Form
  | .accumulator => .accumulator
  | .memory m => .memory m

/-- The instructions, one constructor per row of the opcode map. `b1` is the byte after the opcode; an `Addr` is the
16-bit operand `b2:b1` (R84); a branch carries its signed offset (R86), which `Instr.wellFormed` bounds. -/
inductive Instr where
  -- Load and transfer (41_load_transfer.md R120 to R128)
  | ldaImmediate (b1 : Byte)
  | ldaZeroPage (b1 : Byte)
  | ldaZeroPageX (b1 : Byte)
  | ldaAbsolute (addr : Addr)
  | ldaAbsoluteX (base : Addr)
  | ldaAbsoluteY (base : Addr)
  | ldaIndexedIndirect (b1 : Byte)
  | ldaIndirectIndexed (b1 : Byte)
  | ldxImmediate (b1 : Byte)
  | ldxZeroPage (b1 : Byte)
  | ldxZeroPageY (b1 : Byte)
  | ldxAbsolute (addr : Addr)
  | ldxAbsoluteY (base : Addr)
  | ldyImmediate (b1 : Byte)
  | ldyZeroPage (b1 : Byte)
  | ldyZeroPageX (b1 : Byte)
  | ldyAbsolute (addr : Addr)
  | ldyAbsoluteX (base : Addr)
  | tax
  | tay
  | txa
  | tya
  | tsx
  | txs
  -- Store (42_store.md R132 to R134)
  | staZeroPage (b1 : Byte)
  | staZeroPageX (b1 : Byte)
  | staAbsolute (addr : Addr)
  | staAbsoluteX (base : Addr)
  | staAbsoluteY (base : Addr)
  | staIndexedIndirect (b1 : Byte)
  | staIndirectIndexed (b1 : Byte)
  | stxZeroPage (b1 : Byte)
  | stxZeroPageY (b1 : Byte)
  | stxAbsolute (addr : Addr)
  | styZeroPage (b1 : Byte)
  | styZeroPageX (b1 : Byte)
  | styAbsolute (addr : Addr)
  -- Arithmetic and logic (43_arithmetic_logic.md R136 to R140)
  | adcImmediate (b1 : Byte)
  | adcZeroPage (b1 : Byte)
  | adcZeroPageX (b1 : Byte)
  | adcAbsolute (addr : Addr)
  | adcAbsoluteX (base : Addr)
  | adcAbsoluteY (base : Addr)
  | adcIndexedIndirect (b1 : Byte)
  | adcIndirectIndexed (b1 : Byte)
  | sbcImmediate (b1 : Byte)
  | sbcZeroPage (b1 : Byte)
  | sbcZeroPageX (b1 : Byte)
  | sbcAbsolute (addr : Addr)
  | sbcAbsoluteX (base : Addr)
  | sbcAbsoluteY (base : Addr)
  | sbcIndexedIndirect (b1 : Byte)
  | sbcIndirectIndexed (b1 : Byte)
  | andImmediate (b1 : Byte)
  | andZeroPage (b1 : Byte)
  | andZeroPageX (b1 : Byte)
  | andAbsolute (addr : Addr)
  | andAbsoluteX (base : Addr)
  | andAbsoluteY (base : Addr)
  | andIndexedIndirect (b1 : Byte)
  | andIndirectIndexed (b1 : Byte)
  | oraImmediate (b1 : Byte)
  | oraZeroPage (b1 : Byte)
  | oraZeroPageX (b1 : Byte)
  | oraAbsolute (addr : Addr)
  | oraAbsoluteX (base : Addr)
  | oraAbsoluteY (base : Addr)
  | oraIndexedIndirect (b1 : Byte)
  | oraIndirectIndexed (b1 : Byte)
  | eorImmediate (b1 : Byte)
  | eorZeroPage (b1 : Byte)
  | eorZeroPageX (b1 : Byte)
  | eorAbsolute (addr : Addr)
  | eorAbsoluteX (base : Addr)
  | eorAbsoluteY (base : Addr)
  | eorIndexedIndirect (b1 : Byte)
  | eorIndirectIndexed (b1 : Byte)
  -- Shift and rotate (44_shift_rotate.md R145 to R148)
  | aslAccumulator
  | aslZeroPage (b1 : Byte)
  | aslZeroPageX (b1 : Byte)
  | aslAbsolute (addr : Addr)
  | aslAbsoluteX (base : Addr)
  | lsrAccumulator
  | lsrZeroPage (b1 : Byte)
  | lsrZeroPageX (b1 : Byte)
  | lsrAbsolute (addr : Addr)
  | lsrAbsoluteX (base : Addr)
  | rolAccumulator
  | rolZeroPage (b1 : Byte)
  | rolZeroPageX (b1 : Byte)
  | rolAbsolute (addr : Addr)
  | rolAbsoluteX (base : Addr)
  | rorAccumulator
  | rorZeroPage (b1 : Byte)
  | rorZeroPageX (b1 : Byte)
  | rorAbsolute (addr : Addr)
  | rorAbsoluteX (base : Addr)
  -- Increment and decrement (45_increment_decrement.md R150 to R155)
  | incZeroPage (b1 : Byte)
  | incZeroPageX (b1 : Byte)
  | incAbsolute (addr : Addr)
  | incAbsoluteX (base : Addr)
  | decZeroPage (b1 : Byte)
  | decZeroPageX (b1 : Byte)
  | decAbsolute (addr : Addr)
  | decAbsoluteX (base : Addr)
  | inx
  | iny
  | dex
  | dey
  -- Compare and bit test (46_compare_bit.md R161 to R164)
  | cmpImmediate (b1 : Byte)
  | cmpZeroPage (b1 : Byte)
  | cmpZeroPageX (b1 : Byte)
  | cmpAbsolute (addr : Addr)
  | cmpAbsoluteX (base : Addr)
  | cmpAbsoluteY (base : Addr)
  | cmpIndexedIndirect (b1 : Byte)
  | cmpIndirectIndexed (b1 : Byte)
  | cpxImmediate (b1 : Byte)
  | cpxZeroPage (b1 : Byte)
  | cpxAbsolute (addr : Addr)
  | cpyImmediate (b1 : Byte)
  | cpyZeroPage (b1 : Byte)
  | cpyAbsolute (addr : Addr)
  | bitZeroPage (b1 : Byte)
  | bitAbsolute (addr : Addr)
  -- Flags (47_flag.md R165 to R171)
  | clc
  | sec
  | cli
  | sei
  | cld
  | sed
  | clv
  -- Branches (48_branch.md R176 to R183)
  | bpl (offset : Int)
  | bmi (offset : Int)
  | bvc (offset : Int)
  | bvs (offset : Int)
  | bcc (offset : Int)
  | bcs (offset : Int)
  | bne (offset : Int)
  | beq (offset : Int)
  -- Jump, subroutine, stack and system (49_jump_stack_system.md R185 to R196)
  | jmpAbsolute (target : Addr)
  | jmpIndirect (pointer : Addr)
  | jsr (target : Addr)
  | rts
  | pha
  | pla
  | php
  | plp
  | brk
  | rti
  | nop
deriving DecidableEq, Repr

/-- The mnemonic and the operand form of an instruction: the row it is, and its operand. -/
def Instr.parts : Instr → Mnemonic × Form
  | .ldaImmediate b1 => (.lda, .immediate b1)
  | .ldaZeroPage b1 => (.lda, .memory (.zeroPage b1))
  | .ldaZeroPageX b1 => (.lda, .memory (.zeroPageX b1))
  | .ldaAbsolute addr => (.lda, .memory (.absolute addr))
  | .ldaAbsoluteX base => (.lda, .memory (.absoluteX base))
  | .ldaAbsoluteY base => (.lda, .memory (.absoluteY base))
  | .ldaIndexedIndirect b1 => (.lda, .memory (.indexedIndirect b1))
  | .ldaIndirectIndexed b1 => (.lda, .memory (.indirectIndexed b1))
  | .ldxImmediate b1 => (.ldx, .immediate b1)
  | .ldxZeroPage b1 => (.ldx, .memory (.zeroPage b1))
  | .ldxZeroPageY b1 => (.ldx, .memory (.zeroPageY b1))
  | .ldxAbsolute addr => (.ldx, .memory (.absolute addr))
  | .ldxAbsoluteY base => (.ldx, .memory (.absoluteY base))
  | .ldyImmediate b1 => (.ldy, .immediate b1)
  | .ldyZeroPage b1 => (.ldy, .memory (.zeroPage b1))
  | .ldyZeroPageX b1 => (.ldy, .memory (.zeroPageX b1))
  | .ldyAbsolute addr => (.ldy, .memory (.absolute addr))
  | .ldyAbsoluteX base => (.ldy, .memory (.absoluteX base))
  | .tax => (.tax, .implied)
  | .tay => (.tay, .implied)
  | .txa => (.txa, .implied)
  | .tya => (.tya, .implied)
  | .tsx => (.tsx, .implied)
  | .txs => (.txs, .implied)
  | .staZeroPage b1 => (.sta, .memory (.zeroPage b1))
  | .staZeroPageX b1 => (.sta, .memory (.zeroPageX b1))
  | .staAbsolute addr => (.sta, .memory (.absolute addr))
  | .staAbsoluteX base => (.sta, .memory (.absoluteX base))
  | .staAbsoluteY base => (.sta, .memory (.absoluteY base))
  | .staIndexedIndirect b1 => (.sta, .memory (.indexedIndirect b1))
  | .staIndirectIndexed b1 => (.sta, .memory (.indirectIndexed b1))
  | .stxZeroPage b1 => (.stx, .memory (.zeroPage b1))
  | .stxZeroPageY b1 => (.stx, .memory (.zeroPageY b1))
  | .stxAbsolute addr => (.stx, .memory (.absolute addr))
  | .styZeroPage b1 => (.sty, .memory (.zeroPage b1))
  | .styZeroPageX b1 => (.sty, .memory (.zeroPageX b1))
  | .styAbsolute addr => (.sty, .memory (.absolute addr))
  | .adcImmediate b1 => (.adc, .immediate b1)
  | .adcZeroPage b1 => (.adc, .memory (.zeroPage b1))
  | .adcZeroPageX b1 => (.adc, .memory (.zeroPageX b1))
  | .adcAbsolute addr => (.adc, .memory (.absolute addr))
  | .adcAbsoluteX base => (.adc, .memory (.absoluteX base))
  | .adcAbsoluteY base => (.adc, .memory (.absoluteY base))
  | .adcIndexedIndirect b1 => (.adc, .memory (.indexedIndirect b1))
  | .adcIndirectIndexed b1 => (.adc, .memory (.indirectIndexed b1))
  | .sbcImmediate b1 => (.sbc, .immediate b1)
  | .sbcZeroPage b1 => (.sbc, .memory (.zeroPage b1))
  | .sbcZeroPageX b1 => (.sbc, .memory (.zeroPageX b1))
  | .sbcAbsolute addr => (.sbc, .memory (.absolute addr))
  | .sbcAbsoluteX base => (.sbc, .memory (.absoluteX base))
  | .sbcAbsoluteY base => (.sbc, .memory (.absoluteY base))
  | .sbcIndexedIndirect b1 => (.sbc, .memory (.indexedIndirect b1))
  | .sbcIndirectIndexed b1 => (.sbc, .memory (.indirectIndexed b1))
  | .andImmediate b1 => (.and, .immediate b1)
  | .andZeroPage b1 => (.and, .memory (.zeroPage b1))
  | .andZeroPageX b1 => (.and, .memory (.zeroPageX b1))
  | .andAbsolute addr => (.and, .memory (.absolute addr))
  | .andAbsoluteX base => (.and, .memory (.absoluteX base))
  | .andAbsoluteY base => (.and, .memory (.absoluteY base))
  | .andIndexedIndirect b1 => (.and, .memory (.indexedIndirect b1))
  | .andIndirectIndexed b1 => (.and, .memory (.indirectIndexed b1))
  | .oraImmediate b1 => (.ora, .immediate b1)
  | .oraZeroPage b1 => (.ora, .memory (.zeroPage b1))
  | .oraZeroPageX b1 => (.ora, .memory (.zeroPageX b1))
  | .oraAbsolute addr => (.ora, .memory (.absolute addr))
  | .oraAbsoluteX base => (.ora, .memory (.absoluteX base))
  | .oraAbsoluteY base => (.ora, .memory (.absoluteY base))
  | .oraIndexedIndirect b1 => (.ora, .memory (.indexedIndirect b1))
  | .oraIndirectIndexed b1 => (.ora, .memory (.indirectIndexed b1))
  | .eorImmediate b1 => (.eor, .immediate b1)
  | .eorZeroPage b1 => (.eor, .memory (.zeroPage b1))
  | .eorZeroPageX b1 => (.eor, .memory (.zeroPageX b1))
  | .eorAbsolute addr => (.eor, .memory (.absolute addr))
  | .eorAbsoluteX base => (.eor, .memory (.absoluteX base))
  | .eorAbsoluteY base => (.eor, .memory (.absoluteY base))
  | .eorIndexedIndirect b1 => (.eor, .memory (.indexedIndirect b1))
  | .eorIndirectIndexed b1 => (.eor, .memory (.indirectIndexed b1))
  | .aslAccumulator => (.asl, .accumulator)
  | .aslZeroPage b1 => (.asl, .memory (.zeroPage b1))
  | .aslZeroPageX b1 => (.asl, .memory (.zeroPageX b1))
  | .aslAbsolute addr => (.asl, .memory (.absolute addr))
  | .aslAbsoluteX base => (.asl, .memory (.absoluteX base))
  | .lsrAccumulator => (.lsr, .accumulator)
  | .lsrZeroPage b1 => (.lsr, .memory (.zeroPage b1))
  | .lsrZeroPageX b1 => (.lsr, .memory (.zeroPageX b1))
  | .lsrAbsolute addr => (.lsr, .memory (.absolute addr))
  | .lsrAbsoluteX base => (.lsr, .memory (.absoluteX base))
  | .rolAccumulator => (.rol, .accumulator)
  | .rolZeroPage b1 => (.rol, .memory (.zeroPage b1))
  | .rolZeroPageX b1 => (.rol, .memory (.zeroPageX b1))
  | .rolAbsolute addr => (.rol, .memory (.absolute addr))
  | .rolAbsoluteX base => (.rol, .memory (.absoluteX base))
  | .rorAccumulator => (.ror, .accumulator)
  | .rorZeroPage b1 => (.ror, .memory (.zeroPage b1))
  | .rorZeroPageX b1 => (.ror, .memory (.zeroPageX b1))
  | .rorAbsolute addr => (.ror, .memory (.absolute addr))
  | .rorAbsoluteX base => (.ror, .memory (.absoluteX base))
  | .incZeroPage b1 => (.inc, .memory (.zeroPage b1))
  | .incZeroPageX b1 => (.inc, .memory (.zeroPageX b1))
  | .incAbsolute addr => (.inc, .memory (.absolute addr))
  | .incAbsoluteX base => (.inc, .memory (.absoluteX base))
  | .decZeroPage b1 => (.dec, .memory (.zeroPage b1))
  | .decZeroPageX b1 => (.dec, .memory (.zeroPageX b1))
  | .decAbsolute addr => (.dec, .memory (.absolute addr))
  | .decAbsoluteX base => (.dec, .memory (.absoluteX base))
  | .inx => (.inx, .implied)
  | .iny => (.iny, .implied)
  | .dex => (.dex, .implied)
  | .dey => (.dey, .implied)
  | .cmpImmediate b1 => (.cmp, .immediate b1)
  | .cmpZeroPage b1 => (.cmp, .memory (.zeroPage b1))
  | .cmpZeroPageX b1 => (.cmp, .memory (.zeroPageX b1))
  | .cmpAbsolute addr => (.cmp, .memory (.absolute addr))
  | .cmpAbsoluteX base => (.cmp, .memory (.absoluteX base))
  | .cmpAbsoluteY base => (.cmp, .memory (.absoluteY base))
  | .cmpIndexedIndirect b1 => (.cmp, .memory (.indexedIndirect b1))
  | .cmpIndirectIndexed b1 => (.cmp, .memory (.indirectIndexed b1))
  | .cpxImmediate b1 => (.cpx, .immediate b1)
  | .cpxZeroPage b1 => (.cpx, .memory (.zeroPage b1))
  | .cpxAbsolute addr => (.cpx, .memory (.absolute addr))
  | .cpyImmediate b1 => (.cpy, .immediate b1)
  | .cpyZeroPage b1 => (.cpy, .memory (.zeroPage b1))
  | .cpyAbsolute addr => (.cpy, .memory (.absolute addr))
  | .bitZeroPage b1 => (.bit, .memory (.zeroPage b1))
  | .bitAbsolute addr => (.bit, .memory (.absolute addr))
  | .clc => (.clc, .implied)
  | .sec => (.sec, .implied)
  | .cli => (.cli, .implied)
  | .sei => (.sei, .implied)
  | .cld => (.cld, .implied)
  | .sed => (.sed, .implied)
  | .clv => (.clv, .implied)
  | .bpl offset => (.bpl, .relative offset)
  | .bmi offset => (.bmi, .relative offset)
  | .bvc offset => (.bvc, .relative offset)
  | .bvs offset => (.bvs, .relative offset)
  | .bcc offset => (.bcc, .relative offset)
  | .bcs offset => (.bcs, .relative offset)
  | .bne offset => (.bne, .relative offset)
  | .beq offset => (.beq, .relative offset)
  | .jmpAbsolute target => (.jmp, .memory (.absolute target))
  | .jmpIndirect pointer => (.jmp, .indirect pointer)
  | .jsr target => (.jsr, .memory (.absolute target))
  | .rts => (.rts, .implied)
  | .pha => (.pha, .implied)
  | .pla => (.pla, .implied)
  | .php => (.php, .implied)
  | .plp => (.plp, .implied)
  | .brk => (.brk, .implied)
  | .rti => (.rti, .implied)
  | .nop => (.nop, .implied)

/-- The mnemonic of an instruction. -/
def Instr.mnemonic (i : Instr) : Mnemonic := i.parts.1

/-- The operand form of an instruction. -/
def Instr.form (i : Instr) : Form := i.parts.2

/-- The addressing mode of an instruction. -/
def Instr.mode (i : Instr) : Mode := i.form.mode

end Sys2Proof
end

