-- ==== Sys2Proof/WellFormed.lean ====
section
/-! DEFINITION. Which terms of `Instr` are instructions of the hardware. Operand bytes and words have their width by
type, so the one check is the range of a branch's signed offset (30_encoding.md R86). -/

namespace Sys2Proof

/-- A Relative operand is "reinterpreted as signed (-128..127)" (R86; held as an Int: log entry 9); no other form has an
ill-formed operand. -/
def Form.wellFormed : Form → Bool
  | .relative offset => decide (-128 ≤ offset) && decide (offset ≤ 127)
  | .implied => true
  | .accumulator => true
  | .immediate _ => true
  | .memory _ => true
  | .indirect _ => true

/-- The instruction can be encoded: its operand is in the range its mode gives it. -/
def Instr.wellFormed (i : Instr) : Bool := i.form.wellFormed

end Sys2Proof
end

