-- ==== Sys2Proof/Decode.lean ====
section
/-! DEFINITION. Decode, total on any bytes and rejecting by name (30_encoding.md R80 to R94), and after it the encoder.
The decoder's table is the grid of R87; the encoder's is the "Encoding" line of each instruction's own rule. -/

namespace Sys2Proof

/-- The length of an instruction by its addressing mode, the opcode byte included (R82). -/
def Mode.length : Mode → Nat
  | .implied => 1
  | .accumulator => 1
  | .immediate => 2
  | .zeroPage => 2
  | .zeroPageX => 2
  | .zeroPageY => 2
  | .relative => 2
  | .indexedIndirect => 2
  | .indirectIndexed => 2
  | .absolute => 3
  | .absoluteX => 3
  | .absoluteY => 3
  | .indirect => 3

/-- The length of an instruction (R82, R83). -/
def Instr.length (i : Instr) : Nat := i.mode.length

/-- What a cell of the opcode map makes of the operand bytes. -/
inductive MapCell where
  /-- No operand byte (Implied, Accumulator). -/
  | bare (i : Instr)
  /-- One unsigned operand byte (R85). -/
  | byte (f : Byte → Instr)
  /-- One signed operand byte (R86). -/
  | offset (f : Int → Instr)
  /-- The 16-bit operand `b2:b1`, low byte first (R84). -/
  | word (f : Addr → Instr)

/-- The instruction of a cell with the operand bytes `b1` and `b2`; a byte it does not use is ignored (R81). -/
def MapCell.build : MapCell → Byte → Byte → Instr
  | .bare i, _, _ => i
  | .byte f, b1, _ => f b1
  | .offset f, b1, _ => f (signed8 b1)
  | .word f, b1, b2 => f (join b2 b1)

/-- Row 0 of the grid of R87 (decision D6). -/
def mapRow0 : List (Byte × MapCell) :=
  [ (0x00, .bare .brk)
  , (0x01, .byte .oraIndexedIndirect)
  , (0x05, .byte .oraZeroPage)
  , (0x06, .byte .aslZeroPage)
  , (0x08, .bare .php)
  , (0x09, .byte .oraImmediate)
  , (0x0A, .bare .aslAccumulator)
  , (0x0D, .word .oraAbsolute)
  , (0x0E, .word .aslAbsolute) ]

/-- Row 1 of the grid of R87 (decision D6). -/
def mapRow1 : List (Byte × MapCell) :=
  [ (0x10, .offset .bpl)
  , (0x11, .byte .oraIndirectIndexed)
  , (0x15, .byte .oraZeroPageX)
  , (0x16, .byte .aslZeroPageX)
  , (0x18, .bare .clc)
  , (0x19, .word .oraAbsoluteY)
  , (0x1D, .word .oraAbsoluteX)
  , (0x1E, .word .aslAbsoluteX) ]

/-- Row 2 of the grid of R87 (decision D6). -/
def mapRow2 : List (Byte × MapCell) :=
  [ (0x20, .word .jsr)
  , (0x21, .byte .andIndexedIndirect)
  , (0x24, .byte .bitZeroPage)
  , (0x25, .byte .andZeroPage)
  , (0x26, .byte .rolZeroPage)
  , (0x28, .bare .plp)
  , (0x29, .byte .andImmediate)
  , (0x2A, .bare .rolAccumulator)
  , (0x2C, .word .bitAbsolute)
  , (0x2D, .word .andAbsolute)
  , (0x2E, .word .rolAbsolute) ]

/-- Row 3 of the grid of R87 (decision D6). -/
def mapRow3 : List (Byte × MapCell) :=
  [ (0x30, .offset .bmi)
  , (0x31, .byte .andIndirectIndexed)
  , (0x35, .byte .andZeroPageX)
  , (0x36, .byte .rolZeroPageX)
  , (0x38, .bare .sec)
  , (0x39, .word .andAbsoluteY)
  , (0x3D, .word .andAbsoluteX)
  , (0x3E, .word .rolAbsoluteX) ]

/-- Row 4 of the grid of R87 (decision D6). -/
def mapRow4 : List (Byte × MapCell) :=
  [ (0x40, .bare .rti)
  , (0x41, .byte .eorIndexedIndirect)
  , (0x45, .byte .eorZeroPage)
  , (0x46, .byte .lsrZeroPage)
  , (0x48, .bare .pha)
  , (0x49, .byte .eorImmediate)
  , (0x4A, .bare .lsrAccumulator)
  , (0x4C, .word .jmpAbsolute)
  , (0x4D, .word .eorAbsolute)
  , (0x4E, .word .lsrAbsolute) ]

/-- Row 5 of the grid of R87 (decision D6). -/
def mapRow5 : List (Byte × MapCell) :=
  [ (0x50, .offset .bvc)
  , (0x51, .byte .eorIndirectIndexed)
  , (0x55, .byte .eorZeroPageX)
  , (0x56, .byte .lsrZeroPageX)
  , (0x58, .bare .cli)
  , (0x59, .word .eorAbsoluteY)
  , (0x5D, .word .eorAbsoluteX)
  , (0x5E, .word .lsrAbsoluteX) ]

/-- Row 6 of the grid of R87 (decision D6). -/
def mapRow6 : List (Byte × MapCell) :=
  [ (0x60, .bare .rts)
  , (0x61, .byte .adcIndexedIndirect)
  , (0x65, .byte .adcZeroPage)
  , (0x66, .byte .rorZeroPage)
  , (0x68, .bare .pla)
  , (0x69, .byte .adcImmediate)
  , (0x6A, .bare .rorAccumulator)
  , (0x6C, .word .jmpIndirect)
  , (0x6D, .word .adcAbsolute)
  , (0x6E, .word .rorAbsolute) ]

/-- Row 7 of the grid of R87 (decision D6). -/
def mapRow7 : List (Byte × MapCell) :=
  [ (0x70, .offset .bvs)
  , (0x71, .byte .adcIndirectIndexed)
  , (0x75, .byte .adcZeroPageX)
  , (0x76, .byte .rorZeroPageX)
  , (0x78, .bare .sei)
  , (0x79, .word .adcAbsoluteY)
  , (0x7D, .word .adcAbsoluteX)
  , (0x7E, .word .rorAbsoluteX) ]

/-- Row 8 of the grid of R87 (decision D6). -/
def mapRow8 : List (Byte × MapCell) :=
  [ (0x81, .byte .staIndexedIndirect)
  , (0x84, .byte .styZeroPage)
  , (0x85, .byte .staZeroPage)
  , (0x86, .byte .stxZeroPage)
  , (0x88, .bare .dey)
  , (0x8A, .bare .txa)
  , (0x8C, .word .styAbsolute)
  , (0x8D, .word .staAbsolute)
  , (0x8E, .word .stxAbsolute) ]

/-- Row 9 of the grid of R87 (decision D6). -/
def mapRow9 : List (Byte × MapCell) :=
  [ (0x90, .offset .bcc)
  , (0x91, .byte .staIndirectIndexed)
  , (0x94, .byte .styZeroPageX)
  , (0x95, .byte .staZeroPageX)
  , (0x96, .byte .stxZeroPageY)
  , (0x98, .bare .tya)
  , (0x99, .word .staAbsoluteY)
  , (0x9A, .bare .txs)
  , (0x9D, .word .staAbsoluteX) ]

/-- Row A of the grid of R87 (decision D6). -/
def mapRowA : List (Byte × MapCell) :=
  [ (0xA0, .byte .ldyImmediate)
  , (0xA1, .byte .ldaIndexedIndirect)
  , (0xA2, .byte .ldxImmediate)
  , (0xA4, .byte .ldyZeroPage)
  , (0xA5, .byte .ldaZeroPage)
  , (0xA6, .byte .ldxZeroPage)
  , (0xA8, .bare .tay)
  , (0xA9, .byte .ldaImmediate)
  , (0xAA, .bare .tax)
  , (0xAC, .word .ldyAbsolute)
  , (0xAD, .word .ldaAbsolute)
  , (0xAE, .word .ldxAbsolute) ]

/-- Row B of the grid of R87 (decision D6). -/
def mapRowB : List (Byte × MapCell) :=
  [ (0xB0, .offset .bcs)
  , (0xB1, .byte .ldaIndirectIndexed)
  , (0xB4, .byte .ldyZeroPageX)
  , (0xB5, .byte .ldaZeroPageX)
  , (0xB6, .byte .ldxZeroPageY)
  , (0xB8, .bare .clv)
  , (0xB9, .word .ldaAbsoluteY)
  , (0xBA, .bare .tsx)
  , (0xBC, .word .ldyAbsoluteX)
  , (0xBD, .word .ldaAbsoluteX)
  , (0xBE, .word .ldxAbsoluteY) ]

/-- Row C of the grid of R87 (decision D6). -/
def mapRowC : List (Byte × MapCell) :=
  [ (0xC0, .byte .cpyImmediate)
  , (0xC1, .byte .cmpIndexedIndirect)
  , (0xC4, .byte .cpyZeroPage)
  , (0xC5, .byte .cmpZeroPage)
  , (0xC6, .byte .decZeroPage)
  , (0xC8, .bare .iny)
  , (0xC9, .byte .cmpImmediate)
  , (0xCA, .bare .dex)
  , (0xCC, .word .cpyAbsolute)
  , (0xCD, .word .cmpAbsolute)
  , (0xCE, .word .decAbsolute) ]

/-- Row D of the grid of R87 (decision D6). -/
def mapRowD : List (Byte × MapCell) :=
  [ (0xD0, .offset .bne)
  , (0xD1, .byte .cmpIndirectIndexed)
  , (0xD5, .byte .cmpZeroPageX)
  , (0xD6, .byte .decZeroPageX)
  , (0xD8, .bare .cld)
  , (0xD9, .word .cmpAbsoluteY)
  , (0xDD, .word .cmpAbsoluteX)
  , (0xDE, .word .decAbsoluteX) ]

/-- Row E of the grid of R87 (decision D6). -/
def mapRowE : List (Byte × MapCell) :=
  [ (0xE0, .byte .cpxImmediate)
  , (0xE1, .byte .sbcIndexedIndirect)
  , (0xE4, .byte .cpxZeroPage)
  , (0xE5, .byte .sbcZeroPage)
  , (0xE6, .byte .incZeroPage)
  , (0xE8, .bare .inx)
  , (0xE9, .byte .sbcImmediate)
  , (0xEA, .bare .nop)
  , (0xEC, .word .cpxAbsolute)
  , (0xED, .word .sbcAbsolute)
  , (0xEE, .word .incAbsolute) ]

/-- Row F of the grid of R87 (decision D6). -/
def mapRowF : List (Byte × MapCell) :=
  [ (0xF0, .offset .beq)
  , (0xF1, .byte .sbcIndirectIndexed)
  , (0xF5, .byte .sbcZeroPageX)
  , (0xF6, .byte .incZeroPageX)
  , (0xF8, .bare .sed)
  , (0xF9, .word .sbcAbsoluteY)
  , (0xFD, .word .sbcAbsoluteX)
  , (0xFE, .word .incAbsoluteX) ]

/-- The opcode map: the 151 legal opcodes (R87). -/
def opcodeMap : List (Byte × MapCell) :=
  mapRow0 ++ mapRow1 ++ mapRow2 ++ mapRow3 ++
  mapRow4 ++ mapRow5 ++ mapRow6 ++ mapRow7 ++
  mapRow8 ++ mapRow9 ++ mapRowA ++ mapRowB ++
  mapRowC ++ mapRowD ++ mapRowE ++ mapRowF

/-- The first row of a table under an opcode byte. -/
def lookupOpcode (op : Byte) : List (Byte × MapCell) → Option MapCell
  | [] => none
  | (b, cell) :: rows => if b = op then some cell else lookupOpcode op rows

/-- Why bytes are no instruction. -/
inductive DecodeReject where
  /-- The opcode byte is one of the 105 illegal ones (R88). -/
  | illegalOpcode (op : Byte)
  /-- A list of bytes ends before the instruction does; the machine's fetch always has three bytes (R81; DESIGN
  CHOICE, log entry 12). -/
  | truncated
deriving DecidableEq, Repr

/-- `Decode` of one instruction from the three fetched bytes. Whether they are an instruction depends on `op` alone
(R93). -/
def decode (op b1 b2 : Byte) : Except DecodeReject Instr :=
  match lookupOpcode op opcodeMap with
  | some cell => .ok (cell.build b1 b2)
  | none => .error (.illegalOpcode op)

/-- `Decode(op)` as R93 has it: the mnemonic and the mode of a legal opcode byte, none for an illegal one. -/
def decodeOpcode (op : Byte) : Option (Mnemonic × Mode) :=
  match decode op 0 0 with
  | .ok i => some (i.mnemonic, i.mode)
  | .error _ => none

/-- Decode the instruction at the head of a list of bytes, and give the bytes after it. -/
def decodeBytes : List Byte → Except DecodeReject (Instr × List Byte)
  | [] => .error .truncated
  | op :: rest =>
    match lookupOpcode op opcodeMap, rest with
    | none, _ => .error (.illegalOpcode op)
    | some (.bare i), rest => .ok (i, rest)
    | some (.byte f), b1 :: rest => .ok (f b1, rest)
    | some (.offset f), b1 :: rest => .ok (f (signed8 b1), rest)
    | some (.word f), b1 :: b2 :: rest => .ok (f (join b2 b1), rest)
    | some _, _ => .error .truncated

/-- The instruction the decoder reads from the bits `w`, numbered as the opcode table numbers them: byte k of the
instruction is bits 8k+7..8k. Bits from `nbits` up are 0. -/
def decodeTableWord (nbits w : Nat) : Option Instr :=
  let v := w % 2 ^ nbits
  match decode (BitVec.ofNat 8 v) (BitVec.ofNat 8 (v / 256)) (BitVec.ofNat 8 (v / 65536)) with
  | .ok i => some i
  | .error _ => none

/-! ## The encoder -/

/-- The opcode byte of an instruction, from the "Encoding" line of its rule (R120 to R196). -/
def Instr.opcode : Instr → Byte
  | .ldaImmediate _ => 0xA9
  | .ldaZeroPage _ => 0xA5
  | .ldaZeroPageX _ => 0xB5
  | .ldaAbsolute _ => 0xAD
  | .ldaAbsoluteX _ => 0xBD
  | .ldaAbsoluteY _ => 0xB9
  | .ldaIndexedIndirect _ => 0xA1
  | .ldaIndirectIndexed _ => 0xB1
  | .ldxImmediate _ => 0xA2
  | .ldxZeroPage _ => 0xA6
  | .ldxZeroPageY _ => 0xB6
  | .ldxAbsolute _ => 0xAE
  | .ldxAbsoluteY _ => 0xBE
  | .ldyImmediate _ => 0xA0
  | .ldyZeroPage _ => 0xA4
  | .ldyZeroPageX _ => 0xB4
  | .ldyAbsolute _ => 0xAC
  | .ldyAbsoluteX _ => 0xBC
  | .tax => 0xAA
  | .tay => 0xA8
  | .txa => 0x8A
  | .tya => 0x98
  | .tsx => 0xBA
  | .txs => 0x9A
  | .staZeroPage _ => 0x85
  | .staZeroPageX _ => 0x95
  | .staAbsolute _ => 0x8D
  | .staAbsoluteX _ => 0x9D
  | .staAbsoluteY _ => 0x99
  | .staIndexedIndirect _ => 0x81
  | .staIndirectIndexed _ => 0x91
  | .stxZeroPage _ => 0x86
  | .stxZeroPageY _ => 0x96
  | .stxAbsolute _ => 0x8E
  | .styZeroPage _ => 0x84
  | .styZeroPageX _ => 0x94
  | .styAbsolute _ => 0x8C
  | .adcImmediate _ => 0x69
  | .adcZeroPage _ => 0x65
  | .adcZeroPageX _ => 0x75
  | .adcAbsolute _ => 0x6D
  | .adcAbsoluteX _ => 0x7D
  | .adcAbsoluteY _ => 0x79
  | .adcIndexedIndirect _ => 0x61
  | .adcIndirectIndexed _ => 0x71
  | .sbcImmediate _ => 0xE9
  | .sbcZeroPage _ => 0xE5
  | .sbcZeroPageX _ => 0xF5
  | .sbcAbsolute _ => 0xED
  | .sbcAbsoluteX _ => 0xFD
  | .sbcAbsoluteY _ => 0xF9
  | .sbcIndexedIndirect _ => 0xE1
  | .sbcIndirectIndexed _ => 0xF1
  | .andImmediate _ => 0x29
  | .andZeroPage _ => 0x25
  | .andZeroPageX _ => 0x35
  | .andAbsolute _ => 0x2D
  | .andAbsoluteX _ => 0x3D
  | .andAbsoluteY _ => 0x39
  | .andIndexedIndirect _ => 0x21
  | .andIndirectIndexed _ => 0x31
  | .oraImmediate _ => 0x09
  | .oraZeroPage _ => 0x05
  | .oraZeroPageX _ => 0x15
  | .oraAbsolute _ => 0x0D
  | .oraAbsoluteX _ => 0x1D
  | .oraAbsoluteY _ => 0x19
  | .oraIndexedIndirect _ => 0x01
  | .oraIndirectIndexed _ => 0x11
  | .eorImmediate _ => 0x49
  | .eorZeroPage _ => 0x45
  | .eorZeroPageX _ => 0x55
  | .eorAbsolute _ => 0x4D
  | .eorAbsoluteX _ => 0x5D
  | .eorAbsoluteY _ => 0x59
  | .eorIndexedIndirect _ => 0x41
  | .eorIndirectIndexed _ => 0x51
  | .aslAccumulator => 0x0A
  | .aslZeroPage _ => 0x06
  | .aslZeroPageX _ => 0x16
  | .aslAbsolute _ => 0x0E
  | .aslAbsoluteX _ => 0x1E
  | .lsrAccumulator => 0x4A
  | .lsrZeroPage _ => 0x46
  | .lsrZeroPageX _ => 0x56
  | .lsrAbsolute _ => 0x4E
  | .lsrAbsoluteX _ => 0x5E
  | .rolAccumulator => 0x2A
  | .rolZeroPage _ => 0x26
  | .rolZeroPageX _ => 0x36
  | .rolAbsolute _ => 0x2E
  | .rolAbsoluteX _ => 0x3E
  | .rorAccumulator => 0x6A
  | .rorZeroPage _ => 0x66
  | .rorZeroPageX _ => 0x76
  | .rorAbsolute _ => 0x6E
  | .rorAbsoluteX _ => 0x7E
  | .incZeroPage _ => 0xE6
  | .incZeroPageX _ => 0xF6
  | .incAbsolute _ => 0xEE
  | .incAbsoluteX _ => 0xFE
  | .decZeroPage _ => 0xC6
  | .decZeroPageX _ => 0xD6
  | .decAbsolute _ => 0xCE
  | .decAbsoluteX _ => 0xDE
  | .inx => 0xE8
  | .iny => 0xC8
  | .dex => 0xCA
  | .dey => 0x88
  | .cmpImmediate _ => 0xC9
  | .cmpZeroPage _ => 0xC5
  | .cmpZeroPageX _ => 0xD5
  | .cmpAbsolute _ => 0xCD
  | .cmpAbsoluteX _ => 0xDD
  | .cmpAbsoluteY _ => 0xD9
  | .cmpIndexedIndirect _ => 0xC1
  | .cmpIndirectIndexed _ => 0xD1
  | .cpxImmediate _ => 0xE0
  | .cpxZeroPage _ => 0xE4
  | .cpxAbsolute _ => 0xEC
  | .cpyImmediate _ => 0xC0
  | .cpyZeroPage _ => 0xC4
  | .cpyAbsolute _ => 0xCC
  | .bitZeroPage _ => 0x24
  | .bitAbsolute _ => 0x2C
  | .clc => 0x18
  | .sec => 0x38
  | .cli => 0x58
  | .sei => 0x78
  | .cld => 0xD8
  | .sed => 0xF8
  | .clv => 0xB8
  | .bpl _ => 0x10
  | .bmi _ => 0x30
  | .bvc _ => 0x50
  | .bvs _ => 0x70
  | .bcc _ => 0x90
  | .bcs _ => 0xB0
  | .bne _ => 0xD0
  | .beq _ => 0xF0
  | .jmpAbsolute _ => 0x4C
  | .jmpIndirect _ => 0x6C
  | .jsr _ => 0x20
  | .rts => 0x60
  | .pha => 0x48
  | .pla => 0x68
  | .php => 0x08
  | .plp => 0x28
  | .brk => 0x00
  | .rti => 0x40
  | .nop => 0xEA

/-- The operand bytes of a memory operand, in address order (R80, R84). -/
def MemOperand.bytes : MemOperand → List Byte
  | .zeroPage b1 => [b1]
  | .zeroPageX b1 => [b1]
  | .zeroPageY b1 => [b1]
  | .indexedIndirect b1 => [b1]
  | .indirectIndexed b1 => [b1]
  | .absolute addr => [lowByte addr, highByte addr]
  | .absoluteX base => [lowByte base, highByte base]
  | .absoluteY base => [lowByte base, highByte base]

/-- The operand bytes of an instruction, in address order (R80, R84, R86). -/
def Form.bytes : Form → List Byte
  | .implied => []
  | .accumulator => []
  | .immediate b1 => [b1]
  | .memory m => m.bytes
  | .indirect pointer => [lowByte pointer, highByte pointer]
  | .relative offset => [offsetByte offset]

/-- The bytes of an instruction, in address order: the opcode, then its operand (R80). -/
def encode (i : Instr) : List Byte := i.opcode :: i.form.bytes

end Sys2Proof
end

