-- ==== Sys2Proof/Config.lean ====
section
/-! DEFINITION. The configuration parameters of 00_scope.md rule R5: what is fixed for a run, and the draw of the
registers that the spec leaves OPEN at construction. -/

namespace Sys2Proof

/-- The configuration inputs of R5, fixed for a run (log entry 4). -/
structure Config where
  /-- `PRINT_PORT`: the one address whose stores are emitted, or none (R5, R131). -/
  printPort : Option Addr
  /-- `CONTINUE_AFTER_BRK`: whether a BRK leaves the machine running (R5, R194). -/
  continueAfterBrk : Bool
deriving DecidableEq, Repr

/-- The defaults of R5: no print port, and BRK halts (decisions D18 and D23). -/
def Config.unconfigured : Config := { printPort := none, continueAfterBrk := false }

/-- `INIT_REGS` of R5: the ten items R36 leaves OPEN, drawn once at construction. -/
structure InitRegs where
  a  : Byte
  x  : Byte
  y  : Byte
  sp : Byte
  n  : Bool
  v  : Bool
  d  : Bool
  i  : Bool
  z  : Bool
  c  : Bool
deriving DecidableEq, Repr

/-- DESIGN CHOICE (log entry 2): the one draw `State.reset` is built from. It is the concrete draw that the spec's
worked examples S6 to S8 use (95_test_vectors.md section 1: SP = FF, every other register and flag 0). The spec fixes
no draw, and no obligation rests on this one. -/
def InitRegs.example95 : InitRegs :=
  { a := 0x00, x := 0x00, y := 0x00, sp := 0xFF
    n := false, v := false, d := false, i := false, z := false, c := false }

end Sys2Proof
end

