-- ==== Sys2Proof/Machine/State.lean ====
section
/-! DEFINITION. The state of one instance as plain data (10_state.md R20 to R36), its two stop types, and the machine as
constructed. -/

namespace Sys2Proof.Machine

/-- The six writable flags of the status register P (R24). The other two, U and B, are hardwired to 1 (R26): they have
no storage and are the constant accessors `Flags.u` and `Flags.b` (log entry 8). -/
structure Flags where
  /-- Negative, status bit 7. -/
  n : Bool
  /-- Overflow, status bit 6. -/
  v : Bool
  /-- Decimal, status bit 3: settable and inert (R27). -/
  d : Bool
  /-- InterruptDisable, status bit 2: settable and inert (R28). -/
  i : Bool
  /-- Zero, status bit 1. -/
  z : Bool
  /-- Carry, status bit 0. -/
  c : Bool
deriving DecidableEq, Repr

/-- Why a run ended: named, with no numeric code (R33, R203). -/
inductive HaltReason where
  /-- A BRK ended the run (R194). -/
  | brk
  /-- The step fetched an illegal opcode byte `op` at address `pc` (R201). -/
  | illegalOpcode (op : Byte) (pc : Addr)
  /-- The halt flag was sampled set (R213). -/
  | cancelled
deriving DecidableEq, Repr

/-- The run state (R33). -/
inductive RunState where
  /-- Constructed, not yet started. -/
  | idle
  | running
  | halted (reason : HaltReason)
deriving DecidableEq, Repr

/-- Memory: the listed bytes, by address. An unlisted address reads as `Memory.unlisted` (Machine/Memory.lean), and
`Memory.wf` is the one canonical form. -/
abbrev Memory := List Host.Cell

/-- The state of one instance (R20), with the configuration inputs (R5, log entry 4) and the halt flag (R35, log
entry 5) beside it. -/
structure State where
  /-- A, the accumulator (R21). -/
  a : Byte
  /-- X, an index register (R21). -/
  x : Byte
  /-- Y, an index register (R21). -/
  y : Byte
  /-- SP, the offset of the stack byte within page one (R22). -/
  sp : Byte
  /-- PC, the address of the next opcode byte (R23). -/
  pc : Addr
  /-- P, the status register (R24). -/
  p : Flags
  /-- Mem, 65,536 bytes (R50). -/
  mem : Memory
  /-- The run state (R33). -/
  run : RunState
  /-- The print-port output, oldest byte first (R34). -/
  out : List Byte
  /-- halt_req, a level the host sets; the block reads it and never writes it (R35). -/
  haltReq : Bool
  /-- PRINT_PORT and CONTINUE_AFTER_BRK, fixed for a run (R5). -/
  config : Config
deriving DecidableEq, Repr

/-- Why a step stops with a fault: never. No instruction of this machine and no address faults (R65, R202); the one
exception, IllegalOpcode, has a described effect and is a next state (R201, log entry 7). Safe: nothing is left out. -/
inductive Fault where
deriving DecidableEq, Repr

/-- Why an instruction has no meaning. -/
inductive Refusal where
  /-- Raised by an arm of `exec` for an instruction that has no meaning yet; no arm of this model does. Safe: a
  refused instruction proves nothing. -/
  | notModelled (mnemonic : String)
deriving DecidableEq, Repr

/-- A newly constructed instance (R230, R36): the draw `init` of INIT_REGS, memory zero (nothing listed, R51), run
state Idle, nothing printed. `config` is R5's; `pc`, which no rule reads before START, and `haltReq`, the host's, are
whatever they are. -/
def State.construct (init : InitRegs) (config : Config) (pc : Addr) (haltReq : Bool) : State :=
  { a := init.a, x := init.x, y := init.y, sp := init.sp, pc := pc
    p := { n := init.n, v := init.v, d := init.d, i := init.i, z := init.z, c := init.c }
    mem := [], run := .idle, out := [], haltReq := haltReq, config := config }

/-- The machine right after reset: as constructed (log entry 1), unconfigured (R5's defaults). DESIGN CHOICE, one draw
of what the spec leaves open: INIT_REGS (log entry 2), PC (log entry 3) and halt_req (log entry 5). -/
def State.reset : State := State.construct InitRegs.example95 Config.unconfigured 0x0000 false

end Sys2Proof.Machine
end

