-- ==== Sys2Proof/Machine/Flags.lean ====
section
/-! DEFINITION. The status register's hardwired flags and byte form (10_state.md R25, R26) and every flag computation:
`SetNZ` (00_scope.md R15), the adder (43_arithmetic_logic.md R135), the comparator (46_compare_bit.md R160), the bit
test (R164), and the shifter's carry (44_shift_rotate.md). -/

namespace Sys2Proof.Machine

/-- U, the Unused flag: always 1 (R26). -/
def Flags.u (_ : Flags) : Bool := true

/-- B, the Break flag: always 1 (R26). -/
def Flags.b (_ : Flags) : Bool := true

/-- `PackP` (R25): N V U B D I Z C from bit 7 down. -/
def Flags.pack (p : Flags) : Byte :=
  BitVec.ofNat 8 (p.n.toNat * 128 + p.v.toNat * 64 + p.u.toNat * 32 + p.b.toNat * 16
    + p.d.toNat * 8 + p.i.toNat * 4 + p.z.toNat * 2 + p.c.toNat)

/-- `UnpackP` (R25): bits 5 and 4 are ignored, since U and B stay 1 (R26). -/
def Flags.unpack (b : Byte) : Flags :=
  { n := b.getLsbD 7, v := b.getLsbD 6, d := b.getLsbD 3
    i := b.getLsbD 2, z := b.getLsbD 1, c := b.getLsbD 0 }

/-- `SetNZ` (R15): N is bit 7 of the result, Z says that it is 0. -/
def Flags.setNZ (p : Flags) (v : Byte) : Flags := { p with n := v.getLsbD 7, z := decide (v = 0) }

/-- Write C. -/
def Flags.setC (p : Flags) (c : Bool) : Flags := { p with c := c }

/-- Write V. -/
def Flags.setV (p : Flags) (v : Bool) : Flags := { p with v := v }

/-- Write I. -/
def Flags.setI (p : Flags) (i : Bool) : Flags := { p with i := i }

/-- Write D. -/
def Flags.setD (p : Flags) (d : Bool) : Flags := { p with d := d }

/-- What the adder gives: the sum, the carry out and the signed overflow (R135). -/
structure Sum where
  r : Byte
  carry : Bool
  overflow : Bool
deriving DecidableEq, Repr

/-- `AddWithCarry` (R135): both sums are exact integers, narrowed at the end. The carry-in counts in the signed sum
(decision D2). The D flag is no input (R27). -/
def addWithCarry (a m : Byte) (cin : Bool) : Sum :=
  let s : Nat := a.toNat + m.toNat + cin.toNat
  let ss : Int := signed8 a + signed8 m + cin.toNat
  { r := BitVec.ofNat 8 s, carry := decide (255 < s), overflow := decide (ss < -128) || decide (127 < ss) }

/-- `Compare` (R160): N and Z from the difference mod 2^8, C from the unsigned order; V is not written. -/
def Flags.compare (p : Flags) (reg m : Byte) : Flags :=
  (p.setC (decide (m.toNat ≤ reg.toNat))).setNZ (reg - m)

/-- The flags of BIT (R164): N and V are bits 7 and 6 of the operand, Z says that `A & M` is 0. -/
def Flags.bitTest (p : Flags) (a m : Byte) : Flags :=
  { p with n := m.getLsbD 7, v := m.getLsbD 6, z := decide (a &&& m = 0) }

/-- What the shifter gives: the result and the bit shifted out. -/
structure Shifted where
  r : Byte
  carry : Bool
deriving DecidableEq, Repr

/-- ASL (R145): `(t << 1) mod 2^8`, C is the old bit 7. -/
def shiftLeft (t : Byte) : Shifted := { r := t <<< 1, carry := t.getLsbD 7 }

/-- LSR (R146): `t >> 1`, C is the old bit 0. -/
def shiftRight (t : Byte) : Shifted := { r := t >>> 1, carry := t.getLsbD 0 }

/-- ROL (R147): the old carry goes into bit 0, C is the old bit 7. -/
def rotateLeft (t : Byte) (c : Bool) : Shifted :=
  { r := (t <<< 1) ||| BitVec.ofNat 8 c.toNat, carry := t.getLsbD 7 }

/-- ROR (R148): the old carry goes into bit 7, C is the old bit 0. -/
def rotateRight (t : Byte) (c : Bool) : Shifted :=
  { r := (t >>> 1) ||| (BitVec.ofNat 8 c.toNat <<< 7), carry := t.getLsbD 0 }

end Sys2Proof.Machine
end

