-- ==== Sys2Proof/Machine/Memory.lean ====
section
/-! DEFINITION. The memory store: reading and writing one byte, and its canonical form (20_memory.md R50, R51, R66). -/

namespace Sys2Proof.Machine

/-- What an unlisted address reads as: memory is "zero-initialized at construction" (R51; log entry 13). -/
def Memory.unlisted : Byte := 0x00

/-- The byte at address `a`. -/
def Memory.read : Memory → Nat → Byte
  | [], _ => Memory.unlisted
  | (b, w) :: m, a => if b = a then w else Memory.read m a

/-- Take every entry of `a` out. -/
def Memory.erase : Memory → Nat → Memory
  | [], _ => []
  | (b, w) :: m, a => if b = a then Memory.erase m a else (b, w) :: Memory.erase m a

/-- Put an entry in, before the first entry of a higher address. -/
def Memory.insert : Memory → Nat → Byte → Memory
  | [], a, v => [(a, v)]
  | (b, w) :: m, a, v => if a < b then (a, v) :: (b, w) :: m else (b, w) :: Memory.insert m a v

/-- Store the byte `v` at address `a`: the canonical form lists no byte that an unlisted address reads as. -/
def Memory.write (m : Memory) (a : Nat) (v : Byte) : Memory :=
  if v = Memory.unlisted then m.erase a else (m.erase a).insert a v

/-- The canonical form: addresses strictly rising, each in the 65,536-byte space (R50), and no entry that says what an
unlisted address reads as. -/
abbrev Memory.wf (m : Memory) : Prop :=
  m.Pairwise (fun c d => c.1 < d.1) ∧ ∀ c ∈ m, c.1 < 65536 ∧ c.2 ≠ Memory.unlisted

end Sys2Proof.Machine
end

