-- ==== Sys2Proof/Machine/Ops.lean ====
section
/-! DEFINITION. The named operations over memory and registers (20_memory.md), the program counter (30_encoding.md R95,
R96), the halts (60_exceptions.md R201, R212, R213), taking BRK's trap entry (R194, R204) and the return from it
(R195, R209). -/

namespace Sys2Proof.Machine

/-! ## Memory accesses -/

/-- `MemRead(a, 1)` (R9): no side effect (R61). -/
def State.read (s : State) (a : Addr) : Byte := s.mem.read a.toNat

/-- `MemWrite(a, 1, v)` (R9): no other effect; the print port belongs to `storeByte`. -/
def State.write (s : State) (a : Addr) (v : Byte) : State := { s with mem := s.mem.write a.toNat v }

/-- `Read16` (R53): the high byte is at the next address mod 2^16. -/
def State.read16 (s : State) (a : Addr) : Addr := join (s.read (a + 1)) (s.read a)

/-- `ReadZP16` (R54): the high byte's address wraps within page zero. -/
def State.readZP16 (s : State) (z : Byte) : Addr := join (s.read (zext16 (z + 1))) (s.read (zext16 z))

/-- Store bytes at rising addresses from `a` on, mod 2^16. -/
def State.placeBytes (s : State) (a : Addr) : List Byte → State
  | [] => s
  | v :: vs => (s.write a v).placeBytes (a + 1) vs

/-- `StoreByte` (R130): the store always lands in memory; a store to exactly PRINT_PORT is also emitted (R131). -/
def State.storeByte (s : State) (ea : Addr) (v : Byte) : State :=
  let t := s.write ea v
  if s.config.printPort = some ea then { t with out := t.out ++ [v] } else t

/-! ## The stack -/

/-- The address of the stack byte an SP value names: `0x0100 + SP` (R56). -/
def stackAddr (sp : Byte) : Addr := 0x0100 + zext16 sp

/-- `Push` (R57): write, then SP - 1 mod 2^8. -/
def State.push (s : State) (v : Byte) : State := { s.write (stackAddr s.sp) v with sp := s.sp - 1 }

/-- `Pull` (R57): SP + 1 mod 2^8, then read. The byte, and the state after. -/
def State.pull (s : State) : Byte × State :=
  let t := { s with sp := s.sp + 1 }
  (t.read (stackAddr t.sp), t)

/-- `Push16` (R58): high byte first. -/
def State.push16 (s : State) (w : Addr) : State := (s.push (highByte w)).push (lowByte w)

/-- `Pull16` (R58): low byte first. -/
def State.pull16 (s : State) : Addr × State :=
  let lo := s.pull
  let hi := lo.2.pull
  (join hi.1 lo.1, hi.2)

/-! ## Program counter and flags -/

/-- `Advance(n)`: PC <- PC + n mod 2^16 (R95). -/
def State.advance (s : State) (n : Nat) : State := { s with pc := s.pc + BitVec.ofNat 16 n }

/-- Write PC: the instruction returns `Jumped` (R97). -/
def State.jump (s : State) (target : Addr) : State := { s with pc := target }

/-- `SetNZ(v)` (R15). -/
def State.setNZ (s : State) (v : Byte) : State := { s with p := s.p.setNZ v }

/-- Replace the writable flags. -/
def State.setFlags (s : State) (p : Flags) : State := { s with p := p }

/-! ## Halts -/

/-- `halt(reason)` (R212): if the run has already ended, the first reason stands. -/
def State.halt (s : State) (reason : HaltReason) : State :=
  if s.run = .running then { s with run := .halted reason } else s

/-- `raise IllegalOpcode(op, pc)` (R201): the run halts and nothing else changes; PC stays at the byte. -/
def State.raiseIllegalOpcode (s : State) (op : Byte) : State :=
  { s with run := .halted (.illegalOpcode op s.pc) }

/-- The sample of halt_req at the end of a step that executed a legal instruction (R213). -/
def State.sampleHaltReq (s : State) : State := if s.haltReq then s.halt .cancelled else s

/-! ## Trap entry and return -/

/-- BRK's entry (R194, R204): PC + 2 (high byte first) and the status byte are pushed, I as it stood; then I <- 1; then
PC is loaded from the vector at 0xFFFE/0xFFFF, after the pushes (R67). -/
def State.takeBrk (s : State) : State :=
  let saved := s.push16 (s.pc + 2)
  let framed := saved.push saved.p.pack
  let masked := framed.setFlags (framed.p.setI true)
  masked.jump (masked.read16 0xFFFE)

/-- RTI's return (R195, R209): the status byte first, then PC, low byte first, with no + 1. -/
def State.returnFromBrk (s : State) : State :=
  let status := s.pull
  let restored := status.2.setFlags (Flags.unpack status.1)
  let target := restored.pull16
  target.2.jump target.1

/-! ## Fetch -/

/-- The operand latch (R32): the opcode byte and the two bytes after it. It lives inside one step only (DEDUCED,
log entry 11). -/
structure OperandLatch where
  op : Byte
  b1 : Byte
  b2 : Byte
deriving DecidableEq, Repr

/-- The fetch (R81): always three bytes, at PC, PC + 1 and PC + 2 mod 2^16. -/
def State.fetch (s : State) : OperandLatch :=
  { op := s.read s.pc, b1 := s.read (s.pc + 1), b2 := s.read (s.pc + 2) }

end Sys2Proof.Machine
end

