-- ==== Sys2Proof/Machine/Operands.lean ====
section
/-! DEFINITION. The addressing-mode resolver (40_addressing_modes.md): `EA`, `Operand` and `Loc`, and the targets of
the branches and of JMP indirect. It never faults (R100). -/

namespace Sys2Proof.Machine

/-- `EA(mode)` (R115): the address each memory form gives (R104 to R109, R111, R112). -/
def effectiveAddr (s : State) : MemOperand → Addr
  | .zeroPage b1 => zext16 b1
  | .zeroPageX b1 => zext16 (b1 + s.x)
  | .zeroPageY b1 => zext16 (b1 + s.y)
  | .absolute addr => addr
  | .absoluteX base => base + zext16 s.x
  | .absoluteY base => base + zext16 s.y
  | .indexedIndirect b1 => s.readZP16 (b1 + s.x)
  | .indirectIndexed b1 => s.readZP16 b1 + zext16 s.y

/-- `Operand(mode)` (R114): the immediate byte, or the byte at the effective address. -/
def operandValue (s : State) : ReadOperand → Byte
  | .immediate b1 => b1
  | .memory m => s.read (effectiveAddr s m)

/-- A location: the accumulator or a byte of memory (R12). -/
inductive Location where
  | acc
  | mem (a : Addr)
deriving DecidableEq, Repr

/-- `Loc(mode)` (R116). -/
def locate (s : State) : RmwOperand → Location
  | .accumulator => .acc
  | .memory m => .mem (effectiveAddr s m)

/-- `LocRead` (R12). -/
def locRead (s : State) : Location → Byte
  | .acc => s.a
  | .mem a => s.read a

/-- `LocWrite` (R12): a plain write, no store, so it never fires the print port (R131). -/
def locWrite (s : State) (loc : Location) (v : Byte) : State :=
  match loc with
  | .acc => { s with a := v }
  | .mem a => s.write a v

/-- The branch target (R110): the address after the 2-byte branch plus the signed offset, mod 2^16. -/
def branchTarget (s : State) (offset : Int) : Addr := s.pc + 2 + offsetWord offset

/-- JMP indirect's target (R113), with the page-wrap quirk: the high byte comes from the pointer's own page. -/
def indirectTarget (s : State) (pointer : Addr) : Addr :=
  join (s.read (join (highByte pointer) (lowByte pointer + 1))) (s.read pointer)

end Sys2Proof.Machine
end

