-- ==== Sys2Proof/Machine/LoadTransfer.lean ====
section
/-! DEFINITION. Load and transfer (41_load_transfer.md). TXS alone sets no flag (R128). -/

namespace Sys2Proof.Machine

/-- The value an instruction puts into A sets N and Z (R120, R125, R126, R138 to R140). -/
def State.loadA (s : State) (v : Byte) : State := { s with a := v }.setNZ v

/-- The value an instruction puts into X sets N and Z (R121, R123, R127). -/
def State.loadX (s : State) (v : Byte) : State := { s with x := v }.setNZ v

/-- The value an instruction puts into Y sets N and Z (R122, R124). -/
def State.loadY (s : State) (v : Byte) : State := { s with y := v }.setNZ v

/-- LDA (R120). -/
def opLda (o : ReadOperand) (s : State) : State := (s.loadA (operandValue s o)).advance o.form.mode.length

/-- LDX (R121). -/
def opLdx (o : ReadOperand) (s : State) : State := (s.loadX (operandValue s o)).advance o.form.mode.length

/-- LDY (R122). -/
def opLdy (o : ReadOperand) (s : State) : State := (s.loadY (operandValue s o)).advance o.form.mode.length

/-- LDA, Immediate (0xA9, R120). -/
def execLdaImmediate (b1 : Byte) (s : State) : Host.Outcome State Fault Refusal :=
  .next (opLda (.immediate b1) s)

/-- LDA, ZeroPage (0xA5, R120). -/
def execLdaZeroPage (b1 : Byte) (s : State) : Host.Outcome State Fault Refusal :=
  .next (opLda (.memory (.zeroPage b1)) s)

/-- LDA, ZeroPageX (0xB5, R120). -/
def execLdaZeroPageX (b1 : Byte) (s : State) : Host.Outcome State Fault Refusal :=
  .next (opLda (.memory (.zeroPageX b1)) s)

/-- LDA, Absolute (0xAD, R120). -/
def execLdaAbsolute (addr : Addr) (s : State) : Host.Outcome State Fault Refusal :=
  .next (opLda (.memory (.absolute addr)) s)

/-- LDA, AbsoluteX (0xBD, R120). -/
def execLdaAbsoluteX (base : Addr) (s : State) : Host.Outcome State Fault Refusal :=
  .next (opLda (.memory (.absoluteX base)) s)

/-- LDA, AbsoluteY (0xB9, R120). -/
def execLdaAbsoluteY (base : Addr) (s : State) : Host.Outcome State Fault Refusal :=
  .next (opLda (.memory (.absoluteY base)) s)

/-- LDA, IndexedIndirect (0xA1, R120). -/
def execLdaIndexedIndirect (b1 : Byte) (s : State) : Host.Outcome State Fault Refusal :=
  .next (opLda (.memory (.indexedIndirect b1)) s)

/-- LDA, IndirectIndexed (0xB1, R120). -/
def execLdaIndirectIndexed (b1 : Byte) (s : State) : Host.Outcome State Fault Refusal :=
  .next (opLda (.memory (.indirectIndexed b1)) s)

/-- LDX, Immediate (0xA2, R121). -/
def execLdxImmediate (b1 : Byte) (s : State) : Host.Outcome State Fault Refusal :=
  .next (opLdx (.immediate b1) s)

/-- LDX, ZeroPage (0xA6, R121). -/
def execLdxZeroPage (b1 : Byte) (s : State) : Host.Outcome State Fault Refusal :=
  .next (opLdx (.memory (.zeroPage b1)) s)

/-- LDX, ZeroPageY (0xB6, R121). -/
def execLdxZeroPageY (b1 : Byte) (s : State) : Host.Outcome State Fault Refusal :=
  .next (opLdx (.memory (.zeroPageY b1)) s)

/-- LDX, Absolute (0xAE, R121). -/
def execLdxAbsolute (addr : Addr) (s : State) : Host.Outcome State Fault Refusal :=
  .next (opLdx (.memory (.absolute addr)) s)

/-- LDX, AbsoluteY (0xBE, R121). -/
def execLdxAbsoluteY (base : Addr) (s : State) : Host.Outcome State Fault Refusal :=
  .next (opLdx (.memory (.absoluteY base)) s)

/-- LDY, Immediate (0xA0, R122). -/
def execLdyImmediate (b1 : Byte) (s : State) : Host.Outcome State Fault Refusal :=
  .next (opLdy (.immediate b1) s)

/-- LDY, ZeroPage (0xA4, R122). -/
def execLdyZeroPage (b1 : Byte) (s : State) : Host.Outcome State Fault Refusal :=
  .next (opLdy (.memory (.zeroPage b1)) s)

/-- LDY, ZeroPageX (0xB4, R122). -/
def execLdyZeroPageX (b1 : Byte) (s : State) : Host.Outcome State Fault Refusal :=
  .next (opLdy (.memory (.zeroPageX b1)) s)

/-- LDY, Absolute (0xAC, R122). -/
def execLdyAbsolute (addr : Addr) (s : State) : Host.Outcome State Fault Refusal :=
  .next (opLdy (.memory (.absolute addr)) s)

/-- LDY, AbsoluteX (0xBC, R122). -/
def execLdyAbsoluteX (base : Addr) (s : State) : Host.Outcome State Fault Refusal :=
  .next (opLdy (.memory (.absoluteX base)) s)

/-- TAX (0xAA, R123). -/
def execTax (s : State) : Host.Outcome State Fault Refusal :=
  .next ((s.loadX s.a).advance 1)

/-- TAY (0xA8, R124). -/
def execTay (s : State) : Host.Outcome State Fault Refusal :=
  .next ((s.loadY s.a).advance 1)

/-- TXA (0x8A, R125). -/
def execTxa (s : State) : Host.Outcome State Fault Refusal :=
  .next ((s.loadA s.x).advance 1)

/-- TYA (0x98, R126). -/
def execTya (s : State) : Host.Outcome State Fault Refusal :=
  .next ((s.loadA s.y).advance 1)

/-- TSX (0xBA, R127). -/
def execTsx (s : State) : Host.Outcome State Fault Refusal :=
  .next ((s.loadX s.sp).advance 1)

/-- TXS (0x9A, R128). -/
def execTxs (s : State) : Host.Outcome State Fault Refusal :=
  .next ({ s with sp := s.x }.advance 1)

end Sys2Proof.Machine
end

