-- ==== Sys2Proof/Machine/ArithLogic.lean ====
section
/-! DEFINITION. Arithmetic and logic (43_arithmetic_logic.md). -/

namespace Sys2Proof.Machine

/-- A takes the sum, with N, V, Z and C (R136, R137). -/
def State.takeSum (s : State) (sum : Sum) : State :=
  { s with a := sum.r, p := ((s.p.setC sum.carry).setV sum.overflow).setNZ sum.r }

/-- ADC (R136): binary whatever D holds. -/
def opAdc (o : ReadOperand) (s : State) : State :=
  (s.takeSum (addWithCarry s.a (operandValue s o) s.p.c)).advance o.form.mode.length

/-- SBC (R137): the adder with the operand complemented; C = 1 means no borrow (decision D3). -/
def opSbc (o : ReadOperand) (s : State) : State :=
  (s.takeSum (addWithCarry s.a (operandValue s o ^^^ 0xFF) s.p.c)).advance o.form.mode.length

/-- AND (R138). -/
def opAnd (o : ReadOperand) (s : State) : State :=
  (s.loadA (s.a &&& operandValue s o)).advance o.form.mode.length

/-- ORA (R139). -/
def opOra (o : ReadOperand) (s : State) : State :=
  (s.loadA (s.a ||| operandValue s o)).advance o.form.mode.length

/-- EOR (R140). -/
def opEor (o : ReadOperand) (s : State) : State :=
  (s.loadA (s.a ^^^ operandValue s o)).advance o.form.mode.length

/-- ADC, Immediate (0x69, R136). -/
def execAdcImmediate (b1 : Byte) (s : State) : Host.Outcome State Fault Refusal :=
  .next (opAdc (.immediate b1) s)

/-- ADC, ZeroPage (0x65, R136). -/
def execAdcZeroPage (b1 : Byte) (s : State) : Host.Outcome State Fault Refusal :=
  .next (opAdc (.memory (.zeroPage b1)) s)

/-- ADC, ZeroPageX (0x75, R136). -/
def execAdcZeroPageX (b1 : Byte) (s : State) : Host.Outcome State Fault Refusal :=
  .next (opAdc (.memory (.zeroPageX b1)) s)

/-- ADC, Absolute (0x6D, R136). -/
def execAdcAbsolute (addr : Addr) (s : State) : Host.Outcome State Fault Refusal :=
  .next (opAdc (.memory (.absolute addr)) s)

/-- ADC, AbsoluteX (0x7D, R136). -/
def execAdcAbsoluteX (base : Addr) (s : State) : Host.Outcome State Fault Refusal :=
  .next (opAdc (.memory (.absoluteX base)) s)

/-- ADC, AbsoluteY (0x79, R136). -/
def execAdcAbsoluteY (base : Addr) (s : State) : Host.Outcome State Fault Refusal :=
  .next (opAdc (.memory (.absoluteY base)) s)

/-- ADC, IndexedIndirect (0x61, R136). -/
def execAdcIndexedIndirect (b1 : Byte) (s : State) : Host.Outcome State Fault Refusal :=
  .next (opAdc (.memory (.indexedIndirect b1)) s)

/-- ADC, IndirectIndexed (0x71, R136). -/
def execAdcIndirectIndexed (b1 : Byte) (s : State) : Host.Outcome State Fault Refusal :=
  .next (opAdc (.memory (.indirectIndexed b1)) s)

/-- SBC, Immediate (0xE9, R137). -/
def execSbcImmediate (b1 : Byte) (s : State) : Host.Outcome State Fault Refusal :=
  .next (opSbc (.immediate b1) s)

/-- SBC, ZeroPage (0xE5, R137). -/
def execSbcZeroPage (b1 : Byte) (s : State) : Host.Outcome State Fault Refusal :=
  .next (opSbc (.memory (.zeroPage b1)) s)

/-- SBC, ZeroPageX (0xF5, R137). -/
def execSbcZeroPageX (b1 : Byte) (s : State) : Host.Outcome State Fault Refusal :=
  .next (opSbc (.memory (.zeroPageX b1)) s)

/-- SBC, Absolute (0xED, R137). -/
def execSbcAbsolute (addr : Addr) (s : State) : Host.Outcome State Fault Refusal :=
  .next (opSbc (.memory (.absolute addr)) s)

/-- SBC, AbsoluteX (0xFD, R137). -/
def execSbcAbsoluteX (base : Addr) (s : State) : Host.Outcome State Fault Refusal :=
  .next (opSbc (.memory (.absoluteX base)) s)

/-- SBC, AbsoluteY (0xF9, R137). -/
def execSbcAbsoluteY (base : Addr) (s : State) : Host.Outcome State Fault Refusal :=
  .next (opSbc (.memory (.absoluteY base)) s)

/-- SBC, IndexedIndirect (0xE1, R137). -/
def execSbcIndexedIndirect (b1 : Byte) (s : State) : Host.Outcome State Fault Refusal :=
  .next (opSbc (.memory (.indexedIndirect b1)) s)

/-- SBC, IndirectIndexed (0xF1, R137). -/
def execSbcIndirectIndexed (b1 : Byte) (s : State) : Host.Outcome State Fault Refusal :=
  .next (opSbc (.memory (.indirectIndexed b1)) s)

/-- AND, Immediate (0x29, R138). -/
def execAndImmediate (b1 : Byte) (s : State) : Host.Outcome State Fault Refusal :=
  .next (opAnd (.immediate b1) s)

/-- AND, ZeroPage (0x25, R138). -/
def execAndZeroPage (b1 : Byte) (s : State) : Host.Outcome State Fault Refusal :=
  .next (opAnd (.memory (.zeroPage b1)) s)

/-- AND, ZeroPageX (0x35, R138). -/
def execAndZeroPageX (b1 : Byte) (s : State) : Host.Outcome State Fault Refusal :=
  .next (opAnd (.memory (.zeroPageX b1)) s)

/-- AND, Absolute (0x2D, R138). -/
def execAndAbsolute (addr : Addr) (s : State) : Host.Outcome State Fault Refusal :=
  .next (opAnd (.memory (.absolute addr)) s)

/-- AND, AbsoluteX (0x3D, R138). -/
def execAndAbsoluteX (base : Addr) (s : State) : Host.Outcome State Fault Refusal :=
  .next (opAnd (.memory (.absoluteX base)) s)

/-- AND, AbsoluteY (0x39, R138). -/
def execAndAbsoluteY (base : Addr) (s : State) : Host.Outcome State Fault Refusal :=
  .next (opAnd (.memory (.absoluteY base)) s)

/-- AND, IndexedIndirect (0x21, R138). -/
def execAndIndexedIndirect (b1 : Byte) (s : State) : Host.Outcome State Fault Refusal :=
  .next (opAnd (.memory (.indexedIndirect b1)) s)

/-- AND, IndirectIndexed (0x31, R138). -/
def execAndIndirectIndexed (b1 : Byte) (s : State) : Host.Outcome State Fault Refusal :=
  .next (opAnd (.memory (.indirectIndexed b1)) s)

/-- ORA, Immediate (0x09, R139). -/
def execOraImmediate (b1 : Byte) (s : State) : Host.Outcome State Fault Refusal :=
  .next (opOra (.immediate b1) s)

/-- ORA, ZeroPage (0x05, R139). -/
def execOraZeroPage (b1 : Byte) (s : State) : Host.Outcome State Fault Refusal :=
  .next (opOra (.memory (.zeroPage b1)) s)

/-- ORA, ZeroPageX (0x15, R139). -/
def execOraZeroPageX (b1 : Byte) (s : State) : Host.Outcome State Fault Refusal :=
  .next (opOra (.memory (.zeroPageX b1)) s)

/-- ORA, Absolute (0x0D, R139). -/
def execOraAbsolute (addr : Addr) (s : State) : Host.Outcome State Fault Refusal :=
  .next (opOra (.memory (.absolute addr)) s)

/-- ORA, AbsoluteX (0x1D, R139). -/
def execOraAbsoluteX (base : Addr) (s : State) : Host.Outcome State Fault Refusal :=
  .next (opOra (.memory (.absoluteX base)) s)

/-- ORA, AbsoluteY (0x19, R139). -/
def execOraAbsoluteY (base : Addr) (s : State) : Host.Outcome State Fault Refusal :=
  .next (opOra (.memory (.absoluteY base)) s)

/-- ORA, IndexedIndirect (0x01, R139). -/
def execOraIndexedIndirect (b1 : Byte) (s : State) : Host.Outcome State Fault Refusal :=
  .next (opOra (.memory (.indexedIndirect b1)) s)

/-- ORA, IndirectIndexed (0x11, R139). -/
def execOraIndirectIndexed (b1 : Byte) (s : State) : Host.Outcome State Fault Refusal :=
  .next (opOra (.memory (.indirectIndexed b1)) s)

/-- EOR, Immediate (0x49, R140). -/
def execEorImmediate (b1 : Byte) (s : State) : Host.Outcome State Fault Refusal :=
  .next (opEor (.immediate b1) s)

/-- EOR, ZeroPage (0x45, R140). -/
def execEorZeroPage (b1 : Byte) (s : State) : Host.Outcome State Fault Refusal :=
  .next (opEor (.memory (.zeroPage b1)) s)

/-- EOR, ZeroPageX (0x55, R140). -/
def execEorZeroPageX (b1 : Byte) (s : State) : Host.Outcome State Fault Refusal :=
  .next (opEor (.memory (.zeroPageX b1)) s)

/-- EOR, Absolute (0x4D, R140). -/
def execEorAbsolute (addr : Addr) (s : State) : Host.Outcome State Fault Refusal :=
  .next (opEor (.memory (.absolute addr)) s)

/-- EOR, AbsoluteX (0x5D, R140). -/
def execEorAbsoluteX (base : Addr) (s : State) : Host.Outcome State Fault Refusal :=
  .next (opEor (.memory (.absoluteX base)) s)

/-- EOR, AbsoluteY (0x59, R140). -/
def execEorAbsoluteY (base : Addr) (s : State) : Host.Outcome State Fault Refusal :=
  .next (opEor (.memory (.absoluteY base)) s)

/-- EOR, IndexedIndirect (0x41, R140). -/
def execEorIndexedIndirect (b1 : Byte) (s : State) : Host.Outcome State Fault Refusal :=
  .next (opEor (.memory (.indexedIndirect b1)) s)

/-- EOR, IndirectIndexed (0x51, R140). -/
def execEorIndirectIndexed (b1 : Byte) (s : State) : Host.Outcome State Fault Refusal :=
  .next (opEor (.memory (.indirectIndexed b1)) s)

end Sys2Proof.Machine
end

