-- ==== Sys2Proof/Machine/Branch.lean ====
section
/-! DEFINITION. Branches (48_branch.md): each tests one flag and writes nothing but PC. -/

namespace Sys2Proof.Machine

/-- `Branch(cond)` (R175): to the target if the condition holds, else past the 2-byte branch. -/
def branchIf (cond : Bool) (offset : Int) (s : State) : State :=
  if cond then s.jump (branchTarget s offset) else s.advance 2

/-- BPL, Relative (0x10, R176). -/
def execBpl (offset : Int) (s : State) : Host.Outcome State Fault Refusal :=
  .next (branchIf (!s.p.n) offset s)

/-- BMI, Relative (0x30, R177). -/
def execBmi (offset : Int) (s : State) : Host.Outcome State Fault Refusal :=
  .next (branchIf s.p.n offset s)

/-- BVC, Relative (0x50, R178). -/
def execBvc (offset : Int) (s : State) : Host.Outcome State Fault Refusal :=
  .next (branchIf (!s.p.v) offset s)

/-- BVS, Relative (0x70, R179). -/
def execBvs (offset : Int) (s : State) : Host.Outcome State Fault Refusal :=
  .next (branchIf s.p.v offset s)

/-- BCC, Relative (0x90, R180). -/
def execBcc (offset : Int) (s : State) : Host.Outcome State Fault Refusal :=
  .next (branchIf (!s.p.c) offset s)

/-- BCS, Relative (0xB0, R181). -/
def execBcs (offset : Int) (s : State) : Host.Outcome State Fault Refusal :=
  .next (branchIf s.p.c offset s)

/-- BNE, Relative (0xD0, R182). -/
def execBne (offset : Int) (s : State) : Host.Outcome State Fault Refusal :=
  .next (branchIf (!s.p.z) offset s)

/-- BEQ, Relative (0xF0, R183). -/
def execBeq (offset : Int) (s : State) : Host.Outcome State Fault Refusal :=
  .next (branchIf s.p.z offset s)

end Sys2Proof.Machine
end

