-- ==== Sys2Proof/Machine/CompareBit.lean ====
section
/-! DEFINITION. Compare and bit test (46_compare_bit.md): nothing is written except flags. -/

namespace Sys2Proof.Machine

/-- CMP, CPX, CPY (R161 to R163): flags only. -/
def opCompare (reg : Byte) (o : ReadOperand) (s : State) : State :=
  (s.setFlags (s.p.compare reg (operandValue s o))).advance o.form.mode.length

/-- BIT (R164): flags only. -/
def opBit (m : MemOperand) (s : State) : State :=
  (s.setFlags (s.p.bitTest s.a (s.read (effectiveAddr s m)))).advance m.mode.length

/-- CMP, Immediate (0xC9, R161). -/
def execCmpImmediate (b1 : Byte) (s : State) : Host.Outcome State Fault Refusal :=
  .next (opCompare s.a (.immediate b1) s)

/-- CMP, ZeroPage (0xC5, R161). -/
def execCmpZeroPage (b1 : Byte) (s : State) : Host.Outcome State Fault Refusal :=
  .next (opCompare s.a (.memory (.zeroPage b1)) s)

/-- CMP, ZeroPageX (0xD5, R161). -/
def execCmpZeroPageX (b1 : Byte) (s : State) : Host.Outcome State Fault Refusal :=
  .next (opCompare s.a (.memory (.zeroPageX b1)) s)

/-- CMP, Absolute (0xCD, R161). -/
def execCmpAbsolute (addr : Addr) (s : State) : Host.Outcome State Fault Refusal :=
  .next (opCompare s.a (.memory (.absolute addr)) s)

/-- CMP, AbsoluteX (0xDD, R161). -/
def execCmpAbsoluteX (base : Addr) (s : State) : Host.Outcome State Fault Refusal :=
  .next (opCompare s.a (.memory (.absoluteX base)) s)

/-- CMP, AbsoluteY (0xD9, R161). -/
def execCmpAbsoluteY (base : Addr) (s : State) : Host.Outcome State Fault Refusal :=
  .next (opCompare s.a (.memory (.absoluteY base)) s)

/-- CMP, IndexedIndirect (0xC1, R161). -/
def execCmpIndexedIndirect (b1 : Byte) (s : State) : Host.Outcome State Fault Refusal :=
  .next (opCompare s.a (.memory (.indexedIndirect b1)) s)

/-- CMP, IndirectIndexed (0xD1, R161). -/
def execCmpIndirectIndexed (b1 : Byte) (s : State) : Host.Outcome State Fault Refusal :=
  .next (opCompare s.a (.memory (.indirectIndexed b1)) s)

/-- CPX, Immediate (0xE0, R162). -/
def execCpxImmediate (b1 : Byte) (s : State) : Host.Outcome State Fault Refusal :=
  .next (opCompare s.x (.immediate b1) s)

/-- CPX, ZeroPage (0xE4, R162). -/
def execCpxZeroPage (b1 : Byte) (s : State) : Host.Outcome State Fault Refusal :=
  .next (opCompare s.x (.memory (.zeroPage b1)) s)

/-- CPX, Absolute (0xEC, R162). -/
def execCpxAbsolute (addr : Addr) (s : State) : Host.Outcome State Fault Refusal :=
  .next (opCompare s.x (.memory (.absolute addr)) s)

/-- CPY, Immediate (0xC0, R163). -/
def execCpyImmediate (b1 : Byte) (s : State) : Host.Outcome State Fault Refusal :=
  .next (opCompare s.y (.immediate b1) s)

/-- CPY, ZeroPage (0xC4, R163). -/
def execCpyZeroPage (b1 : Byte) (s : State) : Host.Outcome State Fault Refusal :=
  .next (opCompare s.y (.memory (.zeroPage b1)) s)

/-- CPY, Absolute (0xCC, R163). -/
def execCpyAbsolute (addr : Addr) (s : State) : Host.Outcome State Fault Refusal :=
  .next (opCompare s.y (.memory (.absolute addr)) s)

/-- BIT, ZeroPage (0x24, R164). -/
def execBitZeroPage (b1 : Byte) (s : State) : Host.Outcome State Fault Refusal :=
  .next (opBit (.zeroPage b1) s)

/-- BIT, Absolute (0x2C, R164). -/
def execBitAbsolute (addr : Addr) (s : State) : Host.Outcome State Fault Refusal :=
  .next (opBit (.absolute addr) s)

end Sys2Proof.Machine
end

