-- ==== Sys2Proof/Machine/FlagSetClear.lean ====
section
/-! DEFINITION. The flag instructions (47_flag.md): each sets or clears exactly one flag. -/

namespace Sys2Proof.Machine

/-- CLC (0x18, R165). -/
def execClc (s : State) : Host.Outcome State Fault Refusal :=
  .next ((s.setFlags (s.p.setC false)).advance 1)

/-- SEC (0x38, R166). -/
def execSec (s : State) : Host.Outcome State Fault Refusal :=
  .next ((s.setFlags (s.p.setC true)).advance 1)

/-- CLI (0x58, R167). -/
def execCli (s : State) : Host.Outcome State Fault Refusal :=
  .next ((s.setFlags (s.p.setI false)).advance 1)

/-- SEI (0x78, R168). -/
def execSei (s : State) : Host.Outcome State Fault Refusal :=
  .next ((s.setFlags (s.p.setI true)).advance 1)

/-- CLD (0xD8, R169). -/
def execCld (s : State) : Host.Outcome State Fault Refusal :=
  .next ((s.setFlags (s.p.setD false)).advance 1)

/-- SED (0xF8, R170). -/
def execSed (s : State) : Host.Outcome State Fault Refusal :=
  .next ((s.setFlags (s.p.setD true)).advance 1)

/-- CLV (0xB8, R171). -/
def execClv (s : State) : Host.Outcome State Fault Refusal :=
  .next ((s.setFlags (s.p.setV false)).advance 1)

end Sys2Proof.Machine
end

