-- ==== Sys2Proof/Machine/IncDec.lean ====
section
/-! DEFINITION. Increment and decrement (45_increment_decrement.md), mod 2^8. -/

namespace Sys2Proof.Machine

/-- INC and DEC (R150, R151): the location is found once, read, then written; N and Z from the result. -/
def opStepMemory (f : Byte → Byte) (o : RmwOperand) (s : State) : State :=
  let loc := locate s o
  let r := f (locRead s loc)
  ((locWrite s loc r).setNZ r).advance o.form.mode.length

/-- INC, ZeroPage (0xE6, R150). -/
def execIncZeroPage (b1 : Byte) (s : State) : Host.Outcome State Fault Refusal :=
  .next (opStepMemory (· + 1) (.memory (.zeroPage b1)) s)

/-- INC, ZeroPageX (0xF6, R150). -/
def execIncZeroPageX (b1 : Byte) (s : State) : Host.Outcome State Fault Refusal :=
  .next (opStepMemory (· + 1) (.memory (.zeroPageX b1)) s)

/-- INC, Absolute (0xEE, R150). -/
def execIncAbsolute (addr : Addr) (s : State) : Host.Outcome State Fault Refusal :=
  .next (opStepMemory (· + 1) (.memory (.absolute addr)) s)

/-- INC, AbsoluteX (0xFE, R150). -/
def execIncAbsoluteX (base : Addr) (s : State) : Host.Outcome State Fault Refusal :=
  .next (opStepMemory (· + 1) (.memory (.absoluteX base)) s)

/-- DEC, ZeroPage (0xC6, R151). -/
def execDecZeroPage (b1 : Byte) (s : State) : Host.Outcome State Fault Refusal :=
  .next (opStepMemory (· - 1) (.memory (.zeroPage b1)) s)

/-- DEC, ZeroPageX (0xD6, R151). -/
def execDecZeroPageX (b1 : Byte) (s : State) : Host.Outcome State Fault Refusal :=
  .next (opStepMemory (· - 1) (.memory (.zeroPageX b1)) s)

/-- DEC, Absolute (0xCE, R151). -/
def execDecAbsolute (addr : Addr) (s : State) : Host.Outcome State Fault Refusal :=
  .next (opStepMemory (· - 1) (.memory (.absolute addr)) s)

/-- DEC, AbsoluteX (0xDE, R151). -/
def execDecAbsoluteX (base : Addr) (s : State) : Host.Outcome State Fault Refusal :=
  .next (opStepMemory (· - 1) (.memory (.absoluteX base)) s)

/-- INX (0xE8, R152). -/
def execInx (s : State) : Host.Outcome State Fault Refusal :=
  .next ((s.loadX (s.x + 1)).advance 1)

/-- INY (0xC8, R153). -/
def execIny (s : State) : Host.Outcome State Fault Refusal :=
  .next ((s.loadY (s.y + 1)).advance 1)

/-- DEX (0xCA, R154). -/
def execDex (s : State) : Host.Outcome State Fault Refusal :=
  .next ((s.loadX (s.x - 1)).advance 1)

/-- DEY (0x88, R155). -/
def execDey (s : State) : Host.Outcome State Fault Refusal :=
  .next ((s.loadY (s.y - 1)).advance 1)

end Sys2Proof.Machine
end

