-- ==== Sys2Proof/Machine/JumpStackSystem.lean ====
section
/-! DEFINITION. Jump, subroutine, stack and system (49_jump_stack_system.md). -/

namespace Sys2Proof.Machine

/-- JMP, Absolute (0x4C, R185). -/
def execJmpAbsolute (target : Addr) (s : State) : Host.Outcome State Fault Refusal :=
  .next (s.jump target)

/-- JMP, Indirect (0x6C, R185). -/
def execJmpIndirect (pointer : Addr) (s : State) : Host.Outcome State Fault Refusal :=
  .next (s.jump (indirectTarget s pointer))

/-- JSR (0x20, R186): pushes PC + 2, the address of its own last byte, then jumps to the latched target (R71). -/
def execJsr (target : Addr) (s : State) : Host.Outcome State Fault Refusal :=
  .next ((s.push16 (s.pc + 2)).jump target)

/-- RTS (0x60, R187): the pulled address plus 1 (90_conflicts.md C2). -/
def execRts (s : State) : Host.Outcome State Fault Refusal :=
  .next (s.pull16.2.jump (s.pull16.1 + 1))

/-- PHA (0x48, R188). -/
def execPha (s : State) : Host.Outcome State Fault Refusal :=
  .next ((s.push s.a).advance 1)

/-- PLA (0x68, R189). -/
def execPla (s : State) : Host.Outcome State Fault Refusal :=
  .next ((s.pull.2.loadA s.pull.1).advance 1)

/-- PHP (0x08, R190). -/
def execPhp (s : State) : Host.Outcome State Fault Refusal :=
  .next ((s.push s.p.pack).advance 1)

/-- PLP (0x28, R191). -/
def execPlp (s : State) : Host.Outcome State Fault Refusal :=
  .next ((s.pull.2.setFlags (Flags.unpack s.pull.1)).advance 1)

/-- What a BRK does once its entry is complete: it ends the run unless CONTINUE_AFTER_BRK (R194, R212). -/
def State.endRunByBrk (s : State) : State :=
  if s.config.continueAfterBrk then s else s.halt .brk

/-- BRK (0x00, R194): every effect of the entry, and then the run may end (decision D12). -/
def execBrk (s : State) : Host.Outcome State Fault Refusal :=
  .next s.takeBrk.endRunByBrk

/-- RTI (0x40, R195). -/
def execRti (s : State) : Host.Outcome State Fault Refusal :=
  .next s.returnFromBrk

/-- NOP (0xEA, R196). -/
def execNop (s : State) : Host.Outcome State Fault Refusal :=
  .next (s.advance 1)

end Sys2Proof.Machine
end

