-- ==== Sys2Proof/Machine/ShiftRotate.lean ====
section
/-! DEFINITION. Shift and rotate (44_shift_rotate.md), on the accumulator or memory. -/

namespace Sys2Proof.Machine

/-- A shift or rotate (R145 to R148): the location is found once, read, then written; C takes the bit shifted out. -/
def opShift (f : Byte → Shifted) (o : RmwOperand) (s : State) : State :=
  let loc := locate s o
  let t := f (locRead s loc)
  let written := locWrite s loc t.r
  ((written.setFlags (written.p.setC t.carry)).setNZ t.r).advance o.form.mode.length

/-- ASL, Accumulator (0x0A, R145). -/
def execAslAccumulator (s : State) : Host.Outcome State Fault Refusal :=
  .next (opShift shiftLeft .accumulator s)

/-- ASL, ZeroPage (0x06, R145). -/
def execAslZeroPage (b1 : Byte) (s : State) : Host.Outcome State Fault Refusal :=
  .next (opShift shiftLeft (.memory (.zeroPage b1)) s)

/-- ASL, ZeroPageX (0x16, R145). -/
def execAslZeroPageX (b1 : Byte) (s : State) : Host.Outcome State Fault Refusal :=
  .next (opShift shiftLeft (.memory (.zeroPageX b1)) s)

/-- ASL, Absolute (0x0E, R145). -/
def execAslAbsolute (addr : Addr) (s : State) : Host.Outcome State Fault Refusal :=
  .next (opShift shiftLeft (.memory (.absolute addr)) s)

/-- ASL, AbsoluteX (0x1E, R145). -/
def execAslAbsoluteX (base : Addr) (s : State) : Host.Outcome State Fault Refusal :=
  .next (opShift shiftLeft (.memory (.absoluteX base)) s)

/-- LSR, Accumulator (0x4A, R146). -/
def execLsrAccumulator (s : State) : Host.Outcome State Fault Refusal :=
  .next (opShift shiftRight .accumulator s)

/-- LSR, ZeroPage (0x46, R146). -/
def execLsrZeroPage (b1 : Byte) (s : State) : Host.Outcome State Fault Refusal :=
  .next (opShift shiftRight (.memory (.zeroPage b1)) s)

/-- LSR, ZeroPageX (0x56, R146). -/
def execLsrZeroPageX (b1 : Byte) (s : State) : Host.Outcome State Fault Refusal :=
  .next (opShift shiftRight (.memory (.zeroPageX b1)) s)

/-- LSR, Absolute (0x4E, R146). -/
def execLsrAbsolute (addr : Addr) (s : State) : Host.Outcome State Fault Refusal :=
  .next (opShift shiftRight (.memory (.absolute addr)) s)

/-- LSR, AbsoluteX (0x5E, R146). -/
def execLsrAbsoluteX (base : Addr) (s : State) : Host.Outcome State Fault Refusal :=
  .next (opShift shiftRight (.memory (.absoluteX base)) s)

/-- ROL, Accumulator (0x2A, R147). -/
def execRolAccumulator (s : State) : Host.Outcome State Fault Refusal :=
  .next (opShift (rotateLeft · s.p.c) .accumulator s)

/-- ROL, ZeroPage (0x26, R147). -/
def execRolZeroPage (b1 : Byte) (s : State) : Host.Outcome State Fault Refusal :=
  .next (opShift (rotateLeft · s.p.c) (.memory (.zeroPage b1)) s)

/-- ROL, ZeroPageX (0x36, R147). -/
def execRolZeroPageX (b1 : Byte) (s : State) : Host.Outcome State Fault Refusal :=
  .next (opShift (rotateLeft · s.p.c) (.memory (.zeroPageX b1)) s)

/-- ROL, Absolute (0x2E, R147). -/
def execRolAbsolute (addr : Addr) (s : State) : Host.Outcome State Fault Refusal :=
  .next (opShift (rotateLeft · s.p.c) (.memory (.absolute addr)) s)

/-- ROL, AbsoluteX (0x3E, R147). -/
def execRolAbsoluteX (base : Addr) (s : State) : Host.Outcome State Fault Refusal :=
  .next (opShift (rotateLeft · s.p.c) (.memory (.absoluteX base)) s)

/-- ROR, Accumulator (0x6A, R148). -/
def execRorAccumulator (s : State) : Host.Outcome State Fault Refusal :=
  .next (opShift (rotateRight · s.p.c) .accumulator s)

/-- ROR, ZeroPage (0x66, R148). -/
def execRorZeroPage (b1 : Byte) (s : State) : Host.Outcome State Fault Refusal :=
  .next (opShift (rotateRight · s.p.c) (.memory (.zeroPage b1)) s)

/-- ROR, ZeroPageX (0x76, R148). -/
def execRorZeroPageX (b1 : Byte) (s : State) : Host.Outcome State Fault Refusal :=
  .next (opShift (rotateRight · s.p.c) (.memory (.zeroPageX b1)) s)

/-- ROR, Absolute (0x6E, R148). -/
def execRorAbsolute (addr : Addr) (s : State) : Host.Outcome State Fault Refusal :=
  .next (opShift (rotateRight · s.p.c) (.memory (.absolute addr)) s)

/-- ROR, AbsoluteX (0x7E, R148). -/
def execRorAbsoluteX (base : Addr) (s : State) : Host.Outcome State Fault Refusal :=
  .next (opShift (rotateRight · s.p.c) (.memory (.absoluteX base)) s)

end Sys2Proof.Machine
end

