-- ==== Sys2Proof/Machine/Store.lean ====
section
/-! DEFINITION. Store (42_store.md): the only instructions that write through `StoreByte` (R130). -/

namespace Sys2Proof.Machine

/-- STA, STX, STY (R132 to R134): `StoreByte` at the effective address; no flag. -/
def opStore (m : MemOperand) (v : Byte) (s : State) : State :=
  (s.storeByte (effectiveAddr s m) v).advance m.mode.length

/-- STA, ZeroPage (0x85, R132). -/
def execStaZeroPage (b1 : Byte) (s : State) : Host.Outcome State Fault Refusal :=
  .next (opStore (.zeroPage b1) s.a s)

/-- STA, ZeroPageX (0x95, R132). -/
def execStaZeroPageX (b1 : Byte) (s : State) : Host.Outcome State Fault Refusal :=
  .next (opStore (.zeroPageX b1) s.a s)

/-- STA, Absolute (0x8D, R132). -/
def execStaAbsolute (addr : Addr) (s : State) : Host.Outcome State Fault Refusal :=
  .next (opStore (.absolute addr) s.a s)

/-- STA, AbsoluteX (0x9D, R132). -/
def execStaAbsoluteX (base : Addr) (s : State) : Host.Outcome State Fault Refusal :=
  .next (opStore (.absoluteX base) s.a s)

/-- STA, AbsoluteY (0x99, R132). -/
def execStaAbsoluteY (base : Addr) (s : State) : Host.Outcome State Fault Refusal :=
  .next (opStore (.absoluteY base) s.a s)

/-- STA, IndexedIndirect (0x81, R132). -/
def execStaIndexedIndirect (b1 : Byte) (s : State) : Host.Outcome State Fault Refusal :=
  .next (opStore (.indexedIndirect b1) s.a s)

/-- STA, IndirectIndexed (0x91, R132). -/
def execStaIndirectIndexed (b1 : Byte) (s : State) : Host.Outcome State Fault Refusal :=
  .next (opStore (.indirectIndexed b1) s.a s)

/-- STX, ZeroPage (0x86, R133). -/
def execStxZeroPage (b1 : Byte) (s : State) : Host.Outcome State Fault Refusal :=
  .next (opStore (.zeroPage b1) s.x s)

/-- STX, ZeroPageY (0x96, R133). -/
def execStxZeroPageY (b1 : Byte) (s : State) : Host.Outcome State Fault Refusal :=
  .next (opStore (.zeroPageY b1) s.x s)

/-- STX, Absolute (0x8E, R133). -/
def execStxAbsolute (addr : Addr) (s : State) : Host.Outcome State Fault Refusal :=
  .next (opStore (.absolute addr) s.x s)

/-- STY, ZeroPage (0x84, R134). -/
def execStyZeroPage (b1 : Byte) (s : State) : Host.Outcome State Fault Refusal :=
  .next (opStore (.zeroPage b1) s.y s)

/-- STY, ZeroPageX (0x94, R134). -/
def execStyZeroPageX (b1 : Byte) (s : State) : Host.Outcome State Fault Refusal :=
  .next (opStore (.zeroPageX b1) s.y s)

/-- STY, Absolute (0x8C, R134). -/
def execStyAbsolute (addr : Addr) (s : State) : Host.Outcome State Fault Refusal :=
  .next (opStore (.absolute addr) s.y s)

end Sys2Proof.Machine
end

