-- ==== Sys2Proof/Machine/Dispatch.lean ====
section
/-! DEFINITION. Dispatch (30_encoding.md R94): one arm per constructor of Instr, one direct call of its meaning. -/

namespace Sys2Proof.Machine

def exec (i : Instr) (s : State) : Host.Outcome State Fault Refusal :=
  match i with
  | .ldaImmediate b1 => Sys2Proof.Machine.execLdaImmediate b1 s
  | .ldaZeroPage b1 => Sys2Proof.Machine.execLdaZeroPage b1 s
  | .ldaZeroPageX b1 => Sys2Proof.Machine.execLdaZeroPageX b1 s
  | .ldaAbsolute addr => Sys2Proof.Machine.execLdaAbsolute addr s
  | .ldaAbsoluteX base => Sys2Proof.Machine.execLdaAbsoluteX base s
  | .ldaAbsoluteY base => Sys2Proof.Machine.execLdaAbsoluteY base s
  | .ldaIndexedIndirect b1 => Sys2Proof.Machine.execLdaIndexedIndirect b1 s
  | .ldaIndirectIndexed b1 => Sys2Proof.Machine.execLdaIndirectIndexed b1 s
  | .ldxImmediate b1 => Sys2Proof.Machine.execLdxImmediate b1 s
  | .ldxZeroPage b1 => Sys2Proof.Machine.execLdxZeroPage b1 s
  | .ldxZeroPageY b1 => Sys2Proof.Machine.execLdxZeroPageY b1 s
  | .ldxAbsolute addr => Sys2Proof.Machine.execLdxAbsolute addr s
  | .ldxAbsoluteY base => Sys2Proof.Machine.execLdxAbsoluteY base s
  | .ldyImmediate b1 => Sys2Proof.Machine.execLdyImmediate b1 s
  | .ldyZeroPage b1 => Sys2Proof.Machine.execLdyZeroPage b1 s
  | .ldyZeroPageX b1 => Sys2Proof.Machine.execLdyZeroPageX b1 s
  | .ldyAbsolute addr => Sys2Proof.Machine.execLdyAbsolute addr s
  | .ldyAbsoluteX base => Sys2Proof.Machine.execLdyAbsoluteX base s
  | .tax => Sys2Proof.Machine.execTax s
  | .tay => Sys2Proof.Machine.execTay s
  | .txa => Sys2Proof.Machine.execTxa s
  | .tya => Sys2Proof.Machine.execTya s
  | .tsx => Sys2Proof.Machine.execTsx s
  | .txs => Sys2Proof.Machine.execTxs s
  | .staZeroPage b1 => Sys2Proof.Machine.execStaZeroPage b1 s
  | .staZeroPageX b1 => Sys2Proof.Machine.execStaZeroPageX b1 s
  | .staAbsolute addr => Sys2Proof.Machine.execStaAbsolute addr s
  | .staAbsoluteX base => Sys2Proof.Machine.execStaAbsoluteX base s
  | .staAbsoluteY base => Sys2Proof.Machine.execStaAbsoluteY base s
  | .staIndexedIndirect b1 => Sys2Proof.Machine.execStaIndexedIndirect b1 s
  | .staIndirectIndexed b1 => Sys2Proof.Machine.execStaIndirectIndexed b1 s
  | .stxZeroPage b1 => Sys2Proof.Machine.execStxZeroPage b1 s
  | .stxZeroPageY b1 => Sys2Proof.Machine.execStxZeroPageY b1 s
  | .stxAbsolute addr => Sys2Proof.Machine.execStxAbsolute addr s
  | .styZeroPage b1 => Sys2Proof.Machine.execStyZeroPage b1 s
  | .styZeroPageX b1 => Sys2Proof.Machine.execStyZeroPageX b1 s
  | .styAbsolute addr => Sys2Proof.Machine.execStyAbsolute addr s
  | .adcImmediate b1 => Sys2Proof.Machine.execAdcImmediate b1 s
  | .adcZeroPage b1 => Sys2Proof.Machine.execAdcZeroPage b1 s
  | .adcZeroPageX b1 => Sys2Proof.Machine.execAdcZeroPageX b1 s
  | .adcAbsolute addr => Sys2Proof.Machine.execAdcAbsolute addr s
  | .adcAbsoluteX base => Sys2Proof.Machine.execAdcAbsoluteX base s
  | .adcAbsoluteY base => Sys2Proof.Machine.execAdcAbsoluteY base s
  | .adcIndexedIndirect b1 => Sys2Proof.Machine.execAdcIndexedIndirect b1 s
  | .adcIndirectIndexed b1 => Sys2Proof.Machine.execAdcIndirectIndexed b1 s
  | .sbcImmediate b1 => Sys2Proof.Machine.execSbcImmediate b1 s
  | .sbcZeroPage b1 => Sys2Proof.Machine.execSbcZeroPage b1 s
  | .sbcZeroPageX b1 => Sys2Proof.Machine.execSbcZeroPageX b1 s
  | .sbcAbsolute addr => Sys2Proof.Machine.execSbcAbsolute addr s
  | .sbcAbsoluteX base => Sys2Proof.Machine.execSbcAbsoluteX base s
  | .sbcAbsoluteY base => Sys2Proof.Machine.execSbcAbsoluteY base s
  | .sbcIndexedIndirect b1 => Sys2Proof.Machine.execSbcIndexedIndirect b1 s
  | .sbcIndirectIndexed b1 => Sys2Proof.Machine.execSbcIndirectIndexed b1 s
  | .andImmediate b1 => Sys2Proof.Machine.execAndImmediate b1 s
  | .andZeroPage b1 => Sys2Proof.Machine.execAndZeroPage b1 s
  | .andZeroPageX b1 => Sys2Proof.Machine.execAndZeroPageX b1 s
  | .andAbsolute addr => Sys2Proof.Machine.execAndAbsolute addr s
  | .andAbsoluteX base => Sys2Proof.Machine.execAndAbsoluteX base s
  | .andAbsoluteY base => Sys2Proof.Machine.execAndAbsoluteY base s
  | .andIndexedIndirect b1 => Sys2Proof.Machine.execAndIndexedIndirect b1 s
  | .andIndirectIndexed b1 => Sys2Proof.Machine.execAndIndirectIndexed b1 s
  | .oraImmediate b1 => Sys2Proof.Machine.execOraImmediate b1 s
  | .oraZeroPage b1 => Sys2Proof.Machine.execOraZeroPage b1 s
  | .oraZeroPageX b1 => Sys2Proof.Machine.execOraZeroPageX b1 s
  | .oraAbsolute addr => Sys2Proof.Machine.execOraAbsolute addr s
  | .oraAbsoluteX base => Sys2Proof.Machine.execOraAbsoluteX base s
  | .oraAbsoluteY base => Sys2Proof.Machine.execOraAbsoluteY base s
  | .oraIndexedIndirect b1 => Sys2Proof.Machine.execOraIndexedIndirect b1 s
  | .oraIndirectIndexed b1 => Sys2Proof.Machine.execOraIndirectIndexed b1 s
  | .eorImmediate b1 => Sys2Proof.Machine.execEorImmediate b1 s
  | .eorZeroPage b1 => Sys2Proof.Machine.execEorZeroPage b1 s
  | .eorZeroPageX b1 => Sys2Proof.Machine.execEorZeroPageX b1 s
  | .eorAbsolute addr => Sys2Proof.Machine.execEorAbsolute addr s
  | .eorAbsoluteX base => Sys2Proof.Machine.execEorAbsoluteX base s
  | .eorAbsoluteY base => Sys2Proof.Machine.execEorAbsoluteY base s
  | .eorIndexedIndirect b1 => Sys2Proof.Machine.execEorIndexedIndirect b1 s
  | .eorIndirectIndexed b1 => Sys2Proof.Machine.execEorIndirectIndexed b1 s
  | .aslAccumulator => Sys2Proof.Machine.execAslAccumulator s
  | .aslZeroPage b1 => Sys2Proof.Machine.execAslZeroPage b1 s
  | .aslZeroPageX b1 => Sys2Proof.Machine.execAslZeroPageX b1 s
  | .aslAbsolute addr => Sys2Proof.Machine.execAslAbsolute addr s
  | .aslAbsoluteX base => Sys2Proof.Machine.execAslAbsoluteX base s
  | .lsrAccumulator => Sys2Proof.Machine.execLsrAccumulator s
  | .lsrZeroPage b1 => Sys2Proof.Machine.execLsrZeroPage b1 s
  | .lsrZeroPageX b1 => Sys2Proof.Machine.execLsrZeroPageX b1 s
  | .lsrAbsolute addr => Sys2Proof.Machine.execLsrAbsolute addr s
  | .lsrAbsoluteX base => Sys2Proof.Machine.execLsrAbsoluteX base s
  | .rolAccumulator => Sys2Proof.Machine.execRolAccumulator s
  | .rolZeroPage b1 => Sys2Proof.Machine.execRolZeroPage b1 s
  | .rolZeroPageX b1 => Sys2Proof.Machine.execRolZeroPageX b1 s
  | .rolAbsolute addr => Sys2Proof.Machine.execRolAbsolute addr s
  | .rolAbsoluteX base => Sys2Proof.Machine.execRolAbsoluteX base s
  | .rorAccumulator => Sys2Proof.Machine.execRorAccumulator s
  | .rorZeroPage b1 => Sys2Proof.Machine.execRorZeroPage b1 s
  | .rorZeroPageX b1 => Sys2Proof.Machine.execRorZeroPageX b1 s
  | .rorAbsolute addr => Sys2Proof.Machine.execRorAbsolute addr s
  | .rorAbsoluteX base => Sys2Proof.Machine.execRorAbsoluteX base s
  | .incZeroPage b1 => Sys2Proof.Machine.execIncZeroPage b1 s
  | .incZeroPageX b1 => Sys2Proof.Machine.execIncZeroPageX b1 s
  | .incAbsolute addr => Sys2Proof.Machine.execIncAbsolute addr s
  | .incAbsoluteX base => Sys2Proof.Machine.execIncAbsoluteX base s
  | .decZeroPage b1 => Sys2Proof.Machine.execDecZeroPage b1 s
  | .decZeroPageX b1 => Sys2Proof.Machine.execDecZeroPageX b1 s
  | .decAbsolute addr => Sys2Proof.Machine.execDecAbsolute addr s
  | .decAbsoluteX base => Sys2Proof.Machine.execDecAbsoluteX base s
  | .inx => Sys2Proof.Machine.execInx s
  | .iny => Sys2Proof.Machine.execIny s
  | .dex => Sys2Proof.Machine.execDex s
  | .dey => Sys2Proof.Machine.execDey s
  | .cmpImmediate b1 => Sys2Proof.Machine.execCmpImmediate b1 s
  | .cmpZeroPage b1 => Sys2Proof.Machine.execCmpZeroPage b1 s
  | .cmpZeroPageX b1 => Sys2Proof.Machine.execCmpZeroPageX b1 s
  | .cmpAbsolute addr => Sys2Proof.Machine.execCmpAbsolute addr s
  | .cmpAbsoluteX base => Sys2Proof.Machine.execCmpAbsoluteX base s
  | .cmpAbsoluteY base => Sys2Proof.Machine.execCmpAbsoluteY base s
  | .cmpIndexedIndirect b1 => Sys2Proof.Machine.execCmpIndexedIndirect b1 s
  | .cmpIndirectIndexed b1 => Sys2Proof.Machine.execCmpIndirectIndexed b1 s
  | .cpxImmediate b1 => Sys2Proof.Machine.execCpxImmediate b1 s
  | .cpxZeroPage b1 => Sys2Proof.Machine.execCpxZeroPage b1 s
  | .cpxAbsolute addr => Sys2Proof.Machine.execCpxAbsolute addr s
  | .cpyImmediate b1 => Sys2Proof.Machine.execCpyImmediate b1 s
  | .cpyZeroPage b1 => Sys2Proof.Machine.execCpyZeroPage b1 s
  | .cpyAbsolute addr => Sys2Proof.Machine.execCpyAbsolute addr s
  | .bitZeroPage b1 => Sys2Proof.Machine.execBitZeroPage b1 s
  | .bitAbsolute addr => Sys2Proof.Machine.execBitAbsolute addr s
  | .clc => Sys2Proof.Machine.execClc s
  | .sec => Sys2Proof.Machine.execSec s
  | .cli => Sys2Proof.Machine.execCli s
  | .sei => Sys2Proof.Machine.execSei s
  | .cld => Sys2Proof.Machine.execCld s
  | .sed => Sys2Proof.Machine.execSed s
  | .clv => Sys2Proof.Machine.execClv s
  | .bpl offset => Sys2Proof.Machine.execBpl offset s
  | .bmi offset => Sys2Proof.Machine.execBmi offset s
  | .bvc offset => Sys2Proof.Machine.execBvc offset s
  | .bvs offset => Sys2Proof.Machine.execBvs offset s
  | .bcc offset => Sys2Proof.Machine.execBcc offset s
  | .bcs offset => Sys2Proof.Machine.execBcs offset s
  | .bne offset => Sys2Proof.Machine.execBne offset s
  | .beq offset => Sys2Proof.Machine.execBeq offset s
  | .jmpAbsolute target => Sys2Proof.Machine.execJmpAbsolute target s
  | .jmpIndirect pointer => Sys2Proof.Machine.execJmpIndirect pointer s
  | .jsr target => Sys2Proof.Machine.execJsr target s
  | .rts => Sys2Proof.Machine.execRts s
  | .pha => Sys2Proof.Machine.execPha s
  | .pla => Sys2Proof.Machine.execPla s
  | .php => Sys2Proof.Machine.execPhp s
  | .plp => Sys2Proof.Machine.execPlp s
  | .brk => Sys2Proof.Machine.execBrk s
  | .rti => Sys2Proof.Machine.execRti s
  | .nop => Sys2Proof.Machine.execNop s

end Sys2Proof.Machine
end

