-- ==== Sys2Proof/Machine/Cycle.lean ====
section
/-! DEFINITION. One cycle of a running machine: fetch, decode, execute, sample (30_encoding.md R95). -/

namespace Sys2Proof.Machine

/-- What follows the execution of a legal instruction in the same step: halt_req is sampled (R95, R213). -/
def finishStep : Host.Outcome State Fault Refusal → Host.Outcome State Fault Refusal
  | .next t => .next t.sampleHaltReq
  | .fault f => .fault f
  | .refused r => .refused r

/-- One step of a running machine (R95): fetch three bytes, decode, execute; an illegal opcode byte executes nothing,
halts the run and is not followed by a sample (R201, R213). -/
def cycle (s : State) : Host.Outcome State Fault Refusal :=
  let latch := s.fetch
  match decode latch.op latch.b1 latch.b2 with
  | .ok i => finishStep (exec i s)
  | .error _ => .next (s.raiseIllegalOpcode latch.op)

/-- The bytes of the table word `w` (numbered as the opcode table numbers them, 0 from `nbits` up), in address order:
as many as the longest instruction has. -/
def tableWordBytes (nbits w : Nat) : List Byte :=
  let v := w % 2 ^ nbits
  [BitVec.ofNat 8 v, BitVec.ofNat 8 (v / 256), BitVec.ofNat 8 (v / 65536)]

end Sys2Proof.Machine
end

