-- ==== Sys2Proof/Machine/Step.lean ====
section
/-! DEFINITION. STEP (60_exceptions.md R214) and the place of its next instruction. -/

namespace Sys2Proof.Machine

/-- STEP (R214): one cycle in the Running state; in Idle or Halted it changes nothing (log entry 6). -/
def step (s : State) : Host.Outcome State Fault Refusal :=
  match s.run with
  | .running => cycle s
  | .idle => .next s
  | .halted _ => .next s

/-- `s` with the instruction of the table word `w` stored where the step fetches, and Running, the one state in which a
step fetches: it stands for the host's LOAD of the bytes at PC and a START there (log entry 1). -/
def State.withFetchWord (s : State) (nbits w : Nat) : State :=
  { s.placeBytes s.pc (tableWordBytes nbits w) with run := .running }

end Sys2Proof.Machine
end

