-- ==== Sys2Proof/Machine/RunControl.lean ====
section
/-! DEFINITION. The host's commands (00_scope.md R4): LOAD, START, STEP with its report, RUN, the halt flag, status and
inspection (20_memory.md R73, R75; 60_exceptions.md R213 to R216; 70_reset_and_hazards.md R231 to R234). -/

namespace Sys2Proof.Machine

/-! ## LOAD -/

/-- LOAD's reply (R75, R76). -/
inductive LoadReply where
  | ok
  | loadOverflow
deriving DecidableEq, Repr

/-- Whether an image fits below 0x10000 (R75, decision D24). -/
def loadFits (bytes : List Byte) (origin : Addr) : Bool := decide (origin.toNat + bytes.length ≤ 65536)

/-- LOAD (R75): writes memory only, or refuses with LoadOverflow and changes nothing. -/
def State.load (s : State) (bytes : List Byte) (origin : Addr) : LoadReply × State :=
  if loadFits bytes origin then (.ok, s.placeBytes origin bytes) else (.loadOverflow, s)

/-! ## START -/

/-- START (R232, R233): PC and the run state change, nothing else; `origin` has no effect. -/
def State.start (s : State) (_origin : Addr) (pcOverride : Option Addr) : State :=
  { s with
    pc := match pcOverride with
      | some target => target
      | none => s.read16 0xFFFC
    run := .running }

/-! ## The halt flag, status and inspection -/

/-- The host's write of the level halt_req (R35): the block itself never writes it. -/
def State.setHaltReq (s : State) (level : Bool) : State := { s with haltReq := level }

/-- The register file that STEP reports (R98) and the host may read at any time (R73). -/
structure RegisterFile where
  a : Byte
  x : Byte
  y : Byte
  sp : Byte
  pc : Addr
  p : Flags
deriving DecidableEq, Repr

/-- The snapshot of the register file (R73). -/
def State.registers (s : State) : RegisterFile :=
  { a := s.a, x := s.x, y := s.y, sp := s.sp, pc := s.pc, p := s.p }

/-- The status port: the run state, with the opcode and PC of an IllegalOpcode (R4, R33). -/
def State.status (s : State) : RunState := s.run

/-- The bytes of memory from an address on, for the host to read (R73). -/
def State.inspect (s : State) (a : Addr) : Nat → List Byte
  | 0 => []
  | n + 1 => s.read a :: s.inspect (a + 1) n

/-! ## STEP's report -/

/-- STEP's reply: what it executed, or the run state if it executed nothing (R98, R214). -/
inductive StepReport where
  | executed (op : Byte) (after : RegisterFile)
  | notRunning (run : RunState)
deriving DecidableEq, Repr

/-- The reply of the STEP that led from `s` to `t`: the byte it fetched, legal or not, and the registers after it. -/
def stepReport (s t : State) : StepReport :=
  match s.run with
  | .running => .executed s.fetch.op t.registers
  | .idle => .notRunning s.run
  | .halted _ => .notRunning s.run

/-! ## RUN -/

/-- RUN (R215), watched for at most `k` steps: steps until the run state is not Running (DESIGN CHOICE, log entry 10). -/
def runFor : Nat → State → Host.Outcome State Fault Refusal
  | 0, s => .next s
  | k + 1, s =>
    match s.run, step s with
    | .running, .next t => runFor k t
    | .running, .fault f => .fault f
    | .running, .refused r => .refused r
    | .idle, _ => .next s
    | .halted _, _ => .next s

/-! ## Commands -/

/-- The commands of the host that change state (R4). RUN is STEP repeated (R215), with other commands between its
steps (decision D25; log entry 10). -/
inductive HostCommand where
  | load (bytes : List Byte) (origin : Addr)
  | start (origin : Addr) (pcOverride : Option Addr)
  | step
  | setHaltReq (level : Bool)
deriving DecidableEq, Repr

/-- The effect of one command; each is atomic (R4, R231). -/
def State.command (s : State) : HostCommand → Host.Outcome State Fault Refusal
  | .load bytes origin => .next (s.load bytes origin).2
  | .start origin pcOverride => .next (s.start origin pcOverride)
  | .step => Sys2Proof.Machine.step s
  | .setHaltReq level => .next (s.setHaltReq level)

end Sys2Proof.Machine
end

