-- ==== Sys2Proof/Safety.lean ====
section
/-! DEFINITION. The terms claims about runs use: the invariant of the state, the states that sessions with the host
reach, and when a run ends cleanly. -/

namespace Sys2Proof.Machine

/-- The invariant of the state: memory is in its one canonical form. -/
abbrev State.Inv (s : State) : Prop := s.mem.wf

/-- The states an instance can be in: constructed with any draw of what the spec leaves open (R36), then any commands of
the host, in any order (R231, R234, decision D25). -/
inductive Reachable : State → Prop where
  | construct (init : InitRegs) (config : Config) (pc : Addr) (haltReq : Bool) :
      Reachable (State.construct init config pc haltReq)
  | command (s t : State) (c : HostCommand) : Reachable s → s.command c = .next t → Reachable t

/-- The run has ended (R33). -/
def State.halted (s : State) : Prop := ∃ reason, s.run = .halted reason

/-- The run ended on an illegal opcode byte: the one error a program can raise (R200). -/
def State.haltedByError (s : State) : Prop := ∃ op pc, s.run = .halted (.illegalOpcode op pc)

/-- A run from `s` is safe if RUN, however long it is watched, ends in a state that no error halted. -/
def SafeRun (s : State) : Prop := ∀ k, ∃ t, runFor k s = .next t ∧ ¬ t.haltedByError

end Sys2Proof.Machine
end

