-- ==== Sys2Proof/Certificates/Slice0/Obligations.lean ====
section
/-! DEFINITION. The statements for the provers, one `def Obligations.<Name> : Prop` each, with the words they are
written in. They state next states by record equality, which is also the frame: every field not named is unchanged.
Where a statement stores to memory, the memory is said byte by byte, through `State.read`. The opcode bytes named in
`Forms` are those of the "Encoding" lines of the rules cited; the spec marks the map they come from as its decision
D6. -/

namespace Sys2Proof.Statements

open Sys2Proof.Machine

/-- The mnemonic is decoded with exactly these modes, from exactly these opcode bytes. -/
def Forms (mn : Mnemonic) (l : List (Mode × Byte)) : Prop :=
  ∀ (op : Byte) (mode : Mode), decodeOpcode op = some (mn, mode) ↔ (mode, op) ∈ l

/-- "Negative = bit7 of result, Zero = (result==0)" (R15); the other flags unchanged. -/
def nz (p : Flags) (v : Byte) : Flags := { p with n := v.getLsbD 7, z := decide (v = 0) }

/-- PC after `Advance(n)`, n the length of the instruction. -/
def pcAfter (i : Instr) (s : State) : Addr := s.pc + BitVec.ofNat 16 i.length

/-- The value a read-modify-write operand holds. -/
def rmwOld (s : State) : RmwOperand → Byte
  | .accumulator => s.a
  | .memory m => s.read (effectiveAddr s m)

/-- Execution completes with `r` in the accumulator or in the one byte of memory the operand names, the flags `p`, PC
past the instruction, and every other register, flag and byte as it was. -/
def RmwLeaves (i : Instr) (o : RmwOperand) (s : State) (r : Byte) (p : Flags) : Prop :=
  match o with
  | .accumulator => exec i s = .next { s with a := r, p := p, pc := pcAfter i s }
  | .memory m => ∃ t, exec i s = .next t ∧ t = { s with mem := t.mem, p := p, pc := pcAfter i s } ∧
      t.read (effectiveAddr s m) = r ∧ ∀ a, a ≠ effectiveAddr s m → t.read a = s.read a

/-- Execution completes with `v` in the byte of memory the operand names and, if that is the print port, `v` at the end
of the output; every register and flag but PC and every other byte is as it was. -/
def StoreLeaves (i : Instr) (m : MemOperand) (s : State) (v : Byte) : Prop :=
  ∃ t, exec i s = .next t ∧
    t = { s with
      mem := t.mem
      out := if s.config.printPort = some (effectiveAddr s m) then s.out ++ [v] else s.out
      pc := pcAfter i s } ∧
    t.read (effectiveAddr s m) = v ∧ ∀ a, a ≠ effectiveAddr s m → t.read a = s.read a

/-- Whether a branch mnemonic's condition holds (R176 to R183). -/
def branchTaken (p : Flags) : Mnemonic → Bool
  | .bpl => !p.n
  | .bmi => p.n
  | .bvc => !p.v
  | .bvs => p.v
  | .bcc => !p.c
  | .bcs => p.c
  | .bne => !p.z
  | .beq => p.z
  | _ => false

/-- What a Store instruction stores, and where: the only stores that can fire the print port (R131). -/
def storeOf (i : Instr) (s : State) : Option (Addr × Byte) :=
  match i.form with
  | .memory m =>
    match i.mnemonic with
    | .sta => some (effectiveAddr s m, s.a)
    | .stx => some (effectiveAddr s m, s.x)
    | .sty => some (effectiveAddr s m, s.y)
    | _ => none
  | _ => none

/-- The byte of memory an instruction's operand names, if it names one. -/
def operandAddrs (i : Instr) (s : State) : List Addr :=
  match i.form with
  | .memory m => [effectiveAddr s m]
  | _ => []

/-- The addresses an instruction writes. -/
def writtenAddrs (i : Instr) (s : State) : List Addr :=
  if i.mnemonic ∈ [.sta, .stx, .sty, .asl, .lsr, .rol, .ror, .inc, .dec] then operandAddrs i s
  else if i.mnemonic ∈ [.pha, .php] then [stackAddr s.sp]
  else if i.mnemonic = .jsr then [stackAddr s.sp, stackAddr (s.sp - 1)]
  else if i.mnemonic = .brk then [stackAddr s.sp, stackAddr (s.sp - 1), stackAddr (s.sp - 2)]
  else []

/-- Where PHP or BRK pushes the status byte: PHP pushes it first, BRK after the two bytes of the return address. -/
def statusAddr (i : Instr) (s : State) : Addr :=
  if i.mnemonic = .php then stackAddr s.sp else stackAddr (s.sp - 2)

/-- The memories of `u` and `t` read alike but for one bit of one byte: `u` has `d` there. -/
def AlikeButBit (u t : State) (a : Addr) (bit : Nat) (d : Bool) : Prop :=
  (∀ b, b ≠ a → u.read b = t.read b) ∧
  ∀ k, k < 8 → (u.read a).getLsbD k = if k = bit then d else (t.read a).getLsbD k

/-- `n` executions of one instruction, one after the other. -/
def execTimes (i : Instr) : Nat → State → Host.Outcome State Fault Refusal
  | 0, s => .next s
  | n + 1, s =>
    match exec i s with
    | .next t => execTimes i n t
    | .fault f => .fault f
    | .refused r => .refused r

/-- The 105 illegal opcode bytes, as R88 lists them. -/
def illegalBytes : List Byte :=
  [ 0x02, 0x03, 0x04, 0x07, 0x0B, 0x0C, 0x0F, 0x12, 0x13, 0x14, 0x17, 0x1A, 0x1B, 0x1C, 0x1F,
    0x22, 0x23, 0x27, 0x2B, 0x2F, 0x32, 0x33, 0x34, 0x37, 0x3A, 0x3B, 0x3C, 0x3F, 0x42, 0x43,
    0x44, 0x47, 0x4B, 0x4F, 0x52, 0x53, 0x54, 0x57, 0x5A, 0x5B, 0x5C, 0x5F, 0x62, 0x63, 0x64,
    0x67, 0x6B, 0x6F, 0x72, 0x73, 0x74, 0x77, 0x7A, 0x7B, 0x7C, 0x7F, 0x80, 0x82, 0x83, 0x87 ] ++
  [ 0x89, 0x8B, 0x8F, 0x92, 0x93, 0x97, 0x9B, 0x9C, 0x9E, 0x9F, 0xA3, 0xA7, 0xAB, 0xAF, 0xB2,
    0xB3, 0xB7, 0xBB, 0xBF, 0xC2, 0xC3, 0xC7, 0xCB, 0xCF, 0xD2, 0xD3, 0xD4, 0xD7, 0xDA, 0xDB,
    0xDC, 0xDF, 0xE2, 0xE3, 0xE7, 0xEB, 0xEF, 0xF2, 0xF3, 0xF4, 0xF7, 0xFA, 0xFB, 0xFC, 0xFF ]

/-- An instruction that is another's opcode byte with a signed offset. -/
def BranchIs (op : Byte) (branch : Int → Instr) (mn : Mnemonic) : Prop :=
  (∀ b1 b2, decode op b1 b2 = .ok (branch (signed8 b1))) ∧
  ∀ (b1 : Byte) (s : State), exec (branch (signed8 b1)) s =
    .next { s with pc := if branchTaken s.p mn then s.pc + 2 + b1.signExtend 16 else s.pc + 2 }

end Sys2Proof.Statements

open Sys2Proof Sys2Proof.Machine Sys2Proof.Statements

/-! ## Load, transfer and store -/

/-- LDA, LDX, LDY (R120, R121, R122) in every form: the register takes the operand, N and Z follow it, nothing else
changes but PC. The opcode bytes are the rules' own, which the spec takes from general knowledge (decision D6). -/
def Obligations.LoadsFillTheirRegister : Prop :=
  Forms .lda [(.immediate, 0xA9), (.zeroPage, 0xA5), (.zeroPageX, 0xB5), (.absolute, 0xAD), (.absoluteX, 0xBD),
      (.absoluteY, 0xB9), (.indexedIndirect, 0xA1), (.indirectIndexed, 0xB1)] ∧
  Forms .ldx [(.immediate, 0xA2), (.zeroPage, 0xA6), (.zeroPageY, 0xB6), (.absolute, 0xAE), (.absoluteY, 0xBE)] ∧
  Forms .ldy [(.immediate, 0xA0), (.zeroPage, 0xA4), (.zeroPageX, 0xB4), (.absolute, 0xAC), (.absoluteX, 0xBC)] ∧
  ∀ (i : Instr) (o : ReadOperand) (s : State),
    (i.parts = (.lda, o.form) →
      exec i s = .next { s with a := operandValue s o, p := nz s.p (operandValue s o), pc := pcAfter i s }) ∧
    (i.parts = (.ldx, o.form) →
      exec i s = .next { s with x := operandValue s o, p := nz s.p (operandValue s o), pc := pcAfter i s }) ∧
    (i.parts = (.ldy, o.form) →
      exec i s = .next { s with y := operandValue s o, p := nz s.p (operandValue s o), pc := pcAfter i s })

/-- TAX, TAY, TXA, TYA, TSX, TXS (R123 to R128): the value is copied; N and Z follow it, except in TXS.
Opcode bytes: decision D6. -/
def Obligations.TransfersCopyTheirRegister : Prop :=
  Forms .tax [(.implied, 0xAA)] ∧
  Forms .tay [(.implied, 0xA8)] ∧
  Forms .txa [(.implied, 0x8A)] ∧
  Forms .tya [(.implied, 0x98)] ∧
  Forms .tsx [(.implied, 0xBA)] ∧
  Forms .txs [(.implied, 0x9A)] ∧
  ∀ s : State,
    exec .tax s = .next { s with x := s.a, p := nz s.p s.a, pc := s.pc + 1 } ∧
    exec .tay s = .next { s with y := s.a, p := nz s.p s.a, pc := s.pc + 1 } ∧
    exec .txa s = .next { s with a := s.x, p := nz s.p s.x, pc := s.pc + 1 } ∧
    exec .tya s = .next { s with a := s.y, p := nz s.p s.y, pc := s.pc + 1 } ∧
    exec .tsx s = .next { s with x := s.sp, p := nz s.p s.sp, pc := s.pc + 1 } ∧
    exec .txs s = .next { s with sp := s.x, pc := s.pc + 1 }

/-- STA, STX, STY (R130, R132 to R134) in every form: the byte lands at the effective address, and is emitted as well if
that is exactly PRINT_PORT. That memory is written as well is the spec's decision D18. Opcode bytes: decision D6. -/
def Obligations.StoresWriteOneByte : Prop :=
  Forms .sta [(.zeroPage, 0x85), (.zeroPageX, 0x95), (.absolute, 0x8D), (.absoluteX, 0x9D), (.absoluteY, 0x99),
      (.indexedIndirect, 0x81), (.indirectIndexed, 0x91)] ∧
  Forms .stx [(.zeroPage, 0x86), (.zeroPageY, 0x96), (.absolute, 0x8E)] ∧
  Forms .sty [(.zeroPage, 0x84), (.zeroPageX, 0x94), (.absolute, 0x8C)] ∧
  ∀ (i : Instr) (m : MemOperand) (s : State),
    (i.parts = (.sta, .memory m) → StoreLeaves i m s s.a) ∧
    (i.parts = (.stx, .memory m) → StoreLeaves i m s s.x) ∧
    (i.parts = (.sty, .memory m) → StoreLeaves i m s s.y)

/-- R131 (decision D18): the output grows by the stored byte when a Store instruction's address is exactly PRINT_PORT, and
in no other case: read-modify-writes, pushes and every other instruction leave it. -/
def Obligations.OnlyStoresFireThePrintPort : Prop :=
  ∀ (i : Instr) (s t : State), exec i s = .next t →
    t.out = s.out ++
      match storeOf i s with
      | some (ea, v) => if s.config.printPort = some ea then [v] else []
      | none => []

/-! ## Arithmetic and logic -/

/-- The adder (R135): sum mod 2^8, carry out of bit 7, signed overflow counting the carry-in (decision D2), and the
equivalent form of the overflow that the spec derives. -/
def Obligations.AdderGivesSumCarryOverflow : Prop :=
  ∀ (a m : Byte) (cin : Bool),
    (addWithCarry a m cin).r.toNat = (a.toNat + m.toNat + cin.toNat) % 256 ∧
    ((addWithCarry a m cin).carry = true ↔ 255 < a.toNat + m.toNat + cin.toNat) ∧
    ((addWithCarry a m cin).overflow = true ↔
      a.toInt + m.toInt + cin.toNat < -128 ∨ 127 < a.toInt + m.toInt + cin.toNat) ∧
    (addWithCarry a m cin).overflow =
      ((a ^^^ (addWithCarry a m cin).r) &&& (m ^^^ (addWithCarry a m cin).r)).getLsbD 7

/-- ADC (R136) in every form, whatever D holds; V counts the carry-in (decision D2). Opcode bytes: decision D6. -/
def Obligations.AdcAddsOperandAndCarry : Prop :=
  Forms .adc [(.immediate, 0x69), (.zeroPage, 0x65), (.zeroPageX, 0x75), (.absolute, 0x6D), (.absoluteX, 0x7D),
      (.absoluteY, 0x79), (.indexedIndirect, 0x61), (.indirectIndexed, 0x71)] ∧
  ∀ (i : Instr) (o : ReadOperand) (s : State), i.parts = (.adc, o.form) →
    ∃ r : Byte, r.toNat = (s.a.toNat + (operandValue s o).toNat + s.p.c.toNat) % 256 ∧
      exec i s = .next { s with
        a := r
        p := { nz s.p r with
          c := decide (255 < s.a.toNat + (operandValue s o).toNat + s.p.c.toNat)
          v := decide (s.a.toInt + (operandValue s o).toInt + s.p.c.toNat < -128 ∨
            127 < s.a.toInt + (operandValue s o).toInt + s.p.c.toNat) }
        pc := pcAfter i s }

/-- SBC (R137) in every form, by its meaning: A - M - (1 - C), C = 1 exactly when there is no borrow, V when the signed
difference is out of range. The sense of the borrow is the spec's decision D3. Opcode bytes: decision D6. -/
def Obligations.SbcSubtractsOperandAndBorrow : Prop :=
  Forms .sbc [(.immediate, 0xE9), (.zeroPage, 0xE5), (.zeroPageX, 0xF5), (.absolute, 0xED), (.absoluteX, 0xFD),
      (.absoluteY, 0xF9), (.indexedIndirect, 0xE1), (.indirectIndexed, 0xF1)] ∧
  ∀ (i : Instr) (o : ReadOperand) (s : State), i.parts = (.sbc, o.form) →
    ∃ r : Byte, (r.toNat : Int) = ((s.a.toNat : Int) - (operandValue s o).toNat - (1 - s.p.c.toNat)) % 256 ∧
      exec i s = .next { s with
        a := r
        p := { nz s.p r with
          c := decide ((0 : Int) ≤ (s.a.toNat : Int) - (operandValue s o).toNat - (1 - s.p.c.toNat))
          v := decide (s.a.toInt - (operandValue s o).toInt - (1 - s.p.c.toNat) < -128 ∨
            127 < s.a.toInt - (operandValue s o).toInt - (1 - s.p.c.toNat)) }
        pc := pcAfter i s }

/-- AND, ORA, EOR (R138, R139, R140) in every form: N and Z from the result, C and V untouched.
Opcode bytes: decision D6. -/
def Obligations.LogicCombinesWithAccumulator : Prop :=
  Forms .and [(.immediate, 0x29), (.zeroPage, 0x25), (.zeroPageX, 0x35), (.absolute, 0x2D), (.absoluteX, 0x3D),
      (.absoluteY, 0x39), (.indexedIndirect, 0x21), (.indirectIndexed, 0x31)] ∧
  Forms .ora [(.immediate, 0x09), (.zeroPage, 0x05), (.zeroPageX, 0x15), (.absolute, 0x0D), (.absoluteX, 0x1D),
      (.absoluteY, 0x19), (.indexedIndirect, 0x01), (.indirectIndexed, 0x11)] ∧
  Forms .eor [(.immediate, 0x49), (.zeroPage, 0x45), (.zeroPageX, 0x55), (.absolute, 0x4D), (.absoluteX, 0x5D),
      (.absoluteY, 0x59), (.indexedIndirect, 0x41), (.indirectIndexed, 0x51)] ∧
  ∀ (i : Instr) (o : ReadOperand) (s : State) (r : Byte),
    (i.parts = (.and, o.form) → r = s.a &&& operandValue s o →
      exec i s = .next { s with a := r, p := nz s.p r, pc := pcAfter i s }) ∧
    (i.parts = (.ora, o.form) → r = s.a ||| operandValue s o →
      exec i s = .next { s with a := r, p := nz s.p r, pc := pcAfter i s }) ∧
    (i.parts = (.eor, o.form) → r = s.a ^^^ operandValue s o →
      exec i s = .next { s with a := r, p := nz s.p r, pc := pcAfter i s })

/-! ## Shift, rotate, increment, decrement -/

/-- ASL and LSR (R145, R146) in every form: doubled or halved mod 2^8, C takes the bit shifted out.
Opcode bytes: decision D6. -/
def Obligations.ShiftsMoveOneBitThroughCarry : Prop :=
  Forms .asl [(.accumulator, 0x0A), (.zeroPage, 0x06), (.zeroPageX, 0x16), (.absolute, 0x0E),
      (.absoluteX, 0x1E)] ∧
  Forms .lsr [(.accumulator, 0x4A), (.zeroPage, 0x46), (.zeroPageX, 0x56), (.absolute, 0x4E),
      (.absoluteX, 0x5E)] ∧
  ∀ (i : Instr) (o : RmwOperand) (s : State) (r : Byte),
    (i.parts = (.asl, o.form) → r = BitVec.ofNat 8 ((rmwOld s o).toNat * 2) →
      RmwLeaves i o s r { nz s.p r with c := (rmwOld s o).getLsbD 7 }) ∧
    (i.parts = (.lsr, o.form) → r = BitVec.ofNat 8 ((rmwOld s o).toNat / 2) →
      RmwLeaves i o s r { nz s.p r with c := (rmwOld s o).getLsbD 0 })

/-- ROL and ROR (44_shift_rotate.md) in every form: the old carry fills the vacated bit, C takes the bit shifted out.
Opcode bytes: decision D6. -/
def Obligations.RotatesGoThroughTheCarry : Prop :=
  Forms .rol [(.accumulator, 0x2A), (.zeroPage, 0x26), (.zeroPageX, 0x36), (.absolute, 0x2E),
      (.absoluteX, 0x3E)] ∧
  Forms .ror [(.accumulator, 0x6A), (.zeroPage, 0x66), (.zeroPageX, 0x76), (.absolute, 0x6E),
      (.absoluteX, 0x7E)] ∧
  ∀ (i : Instr) (o : RmwOperand) (s : State) (r : Byte),
    (i.parts = (.rol, o.form) → r = BitVec.ofNat 8 ((rmwOld s o).toNat * 2 + s.p.c.toNat) →
      RmwLeaves i o s r { nz s.p r with c := (rmwOld s o).getLsbD 7 }) ∧
    (i.parts = (.ror, o.form) → r = BitVec.ofNat 8 ((rmwOld s o).toNat / 2 + 128 * s.p.c.toNat) →
      RmwLeaves i o s r { nz s.p r with c := (rmwOld s o).getLsbD 0 })

/-- Nine ROLs in a row, on any location, return the location and C to their starting values: the consequence the spec
marks as derived in R147. -/
def Obligations.NineRotationsRestoreLocationAndCarry : Prop :=
  ∀ (i : Instr) (o : RmwOperand) (s : State), i.parts = (.rol, o.form) →
    ∃ t, execTimes i 9 s = .next t ∧ rmwOld t o = rmwOld s o ∧ t.p.c = s.p.c

/-- INC and DEC (R150, R151) in every form: one more or one less mod 2^8, N and Z from the result.
Opcode bytes: decision D6. -/
def Obligations.IncAndDecStepMemory : Prop :=
  Forms .inc [(.zeroPage, 0xE6), (.zeroPageX, 0xF6), (.absolute, 0xEE), (.absoluteX, 0xFE)] ∧
  Forms .dec [(.zeroPage, 0xC6), (.zeroPageX, 0xD6), (.absolute, 0xCE), (.absoluteX, 0xDE)] ∧
  ∀ (i : Instr) (m : MemOperand) (s : State) (r : Byte),
    (i.parts = (.inc, .memory m) → r = BitVec.ofNat 8 ((s.read (effectiveAddr s m)).toNat + 1) →
      RmwLeaves i (.memory m) s r (nz s.p r)) ∧
    (i.parts = (.dec, .memory m) → r = BitVec.ofNat 8 ((s.read (effectiveAddr s m)).toNat + 255) →
      RmwLeaves i (.memory m) s r (nz s.p r))

/-- The source's law (45_increment_decrement.md; S1 of 95_test_vectors.md): INC then DEC, or DEC then INC, on the same
location restores it, and N and Z reflect only the final value. With memory in canonical form it is the same memory. -/
def Obligations.IncThenDecRestoresMemory : Prop :=
  ∀ (i j : Instr) (m : MemOperand) (s t u : State), s.Inv →
    ((i.parts = (.inc, .memory m) ∧ j.parts = (.dec, .memory m)) ∨
      (i.parts = (.dec, .memory m) ∧ j.parts = (.inc, .memory m))) →
    exec i s = .next t → exec j t = .next u →
    u = { s with p := nz s.p (s.read (effectiveAddr s m)), pc := pcAfter i s + BitVec.ofNat 16 j.length }

/-- INX, INY, DEX, DEY (R152 to R155). Opcode bytes: decision D6. -/
def Obligations.IndexRegistersStepByOne : Prop :=
  Forms .inx [(.implied, 0xE8)] ∧
  Forms .iny [(.implied, 0xC8)] ∧
  Forms .dex [(.implied, 0xCA)] ∧
  Forms .dey [(.implied, 0x88)] ∧
  ∀ s : State,
    exec .inx s = .next { s with x := s.x + 1, p := nz s.p (s.x + 1), pc := s.pc + 1 } ∧
    exec .iny s = .next { s with y := s.y + 1, p := nz s.p (s.y + 1), pc := s.pc + 1 } ∧
    exec .dex s = .next { s with x := s.x - 1, p := nz s.p (s.x - 1), pc := s.pc + 1 } ∧
    exec .dey s = .next { s with y := s.y - 1, p := nz s.p (s.y - 1), pc := s.pc + 1 }

/-! ## Compare, bit test, flags -/

/-- CMP, CPX, CPY (R161, R162, R163) in every form: C is the unsigned order, Z equality, N bit 7 of the difference; V and
every register are unchanged. Opcode bytes: decision D6. -/
def Obligations.ComparesSetOrderFlags : Prop :=
  Forms .cmp [(.immediate, 0xC9), (.zeroPage, 0xC5), (.zeroPageX, 0xD5), (.absolute, 0xCD), (.absoluteX, 0xDD),
      (.absoluteY, 0xD9), (.indexedIndirect, 0xC1), (.indirectIndexed, 0xD1)] ∧
  Forms .cpx [(.immediate, 0xE0), (.zeroPage, 0xE4), (.absolute, 0xEC)] ∧
  Forms .cpy [(.immediate, 0xC0), (.zeroPage, 0xC4), (.absolute, 0xCC)] ∧
  ∀ (i : Instr) (o : ReadOperand) (s : State) (reg : Byte),
    ((i.parts = (.cmp, o.form) ∧ reg = s.a) ∨ (i.parts = (.cpx, o.form) ∧ reg = s.x) ∨
      (i.parts = (.cpy, o.form) ∧ reg = s.y)) →
    exec i s = .next { s with
      p := { s.p with
        c := decide ((operandValue s o).toNat ≤ reg.toNat)
        z := decide (reg = operandValue s o)
        n := (BitVec.ofNat 8 (reg.toNat + 256 - (operandValue s o).toNat)).getLsbD 7 }
      pc := pcAfter i s }

/-- BIT (R164) in both forms: N and V are bits 7 and 6 of the operand, Z from A AND M; A is unchanged.
Opcode bytes: decision D6. -/
def Obligations.BitTestsMemoryAgainstAccumulator : Prop :=
  Forms .bit [(.zeroPage, 0x24), (.absolute, 0x2C)] ∧
  ∀ (i : Instr) (m : MemOperand) (s : State), i.parts = (.bit, .memory m) →
    exec i s = .next { s with
      p := { s.p with
        n := (s.read (effectiveAddr s m)).getLsbD 7
        v := (s.read (effectiveAddr s m)).getLsbD 6
        z := decide (s.a &&& s.read (effectiveAddr s m) = 0) }
      pc := pcAfter i s }

/-- CLC, SEC, CLI, SEI, CLD, SED, CLV (R165 to R171): each writes one flag and nothing else but PC.
Opcode bytes: decision D6. -/
def Obligations.FlagInstructionsWriteOneFlag : Prop :=
  Forms .clc [(.implied, 0x18)] ∧
  Forms .sec [(.implied, 0x38)] ∧
  Forms .cli [(.implied, 0x58)] ∧
  Forms .sei [(.implied, 0x78)] ∧
  Forms .cld [(.implied, 0xD8)] ∧
  Forms .sed [(.implied, 0xF8)] ∧
  Forms .clv [(.implied, 0xB8)] ∧
  ∀ s : State,
    exec .clc s = .next { s with p := { s.p with c := false }, pc := s.pc + 1 } ∧
    exec .sec s = .next { s with p := { s.p with c := true }, pc := s.pc + 1 } ∧
    exec .cli s = .next { s with p := { s.p with i := false }, pc := s.pc + 1 } ∧
    exec .sei s = .next { s with p := { s.p with i := true }, pc := s.pc + 1 } ∧
    exec .cld s = .next { s with p := { s.p with d := false }, pc := s.pc + 1 } ∧
    exec .sed s = .next { s with p := { s.p with d := true }, pc := s.pc + 1 } ∧
    exec .clv s = .next { s with p := { s.p with v := false }, pc := s.pc + 1 }

/-! ## Control flow -/

/-- The eight branches (R175 to R183): for every offset byte, the target is PC + 2 + sext_16(b1) mod 2^16 if the one flag
has the value, else PC + 2; nothing else changes. Opcode bytes: decision D6. -/
def Obligations.BranchesTestOneFlag : Prop :=
  BranchIs 0x10 .bpl .bpl ∧ BranchIs 0x30 .bmi .bmi ∧ BranchIs 0x50 .bvc .bvc ∧ BranchIs 0x70 .bvs .bvs ∧
  BranchIs 0x90 .bcc .bcc ∧ BranchIs 0xB0 .bcs .bcs ∧ BranchIs 0xD0 .bne .bne ∧ BranchIs 0xF0 .beq .beq

/-- JMP (R185) absolute and indirect: the indirect target's high byte comes from the pointer's own page (R113).
Opcode bytes: decision D6. -/
def Obligations.JumpsGoToTheirTarget : Prop :=
  Forms .jmp [(.absolute, 0x4C), (.indirect, 0x6C)] ∧
  ∀ (b1 b2 : Byte) (s : State),
    exec (.jmpAbsolute (join b2 b1)) s = .next { s with pc := join b2 b1 } ∧
    exec (.jmpIndirect (join b2 b1)) s =
      .next { s with pc := join (s.read (join b2 (b1 + 1))) (s.read (join b2 b1)) }

/-- JSR (R186): PC + 2 is pushed, high byte first, and PC takes the target; the frame is the first sentence of R192.
Opcode bytes: decision D6. -/
def Obligations.JsrPushesReturnAddressAndJumps : Prop :=
  Forms .jsr [(.absolute, 0x20)] ∧
  ∀ (target : Addr) (s : State), ∃ t, exec (.jsr target) s = .next t ∧
    t = { s with mem := t.mem, sp := s.sp - 2, pc := target } ∧
    t.read (stackAddr s.sp) = highByte (s.pc + 2) ∧
    t.read (stackAddr (s.sp - 1)) = lowByte (s.pc + 2) ∧
    ∀ a, a ≠ stackAddr s.sp → a ≠ stackAddr (s.sp - 1) → t.read a = s.read a

/-- RTS (R187): PC takes the pulled word, low byte first, plus 1: the resolution of 90_conflicts.md C2 (decision D5).
Opcode bytes: decision D6. -/
def Obligations.RtsReturnsToPulledAddressPlusOne : Prop :=
  Forms .rts [(.implied, 0x60)] ∧
  ∀ s : State, exec .rts s = .next { s with
    sp := s.sp + 2
    pc := join (s.read (stackAddr (s.sp + 2))) (s.read (stackAddr (s.sp + 1))) + 1 }

/-- The source's stack balance (R192, S2): a JSR whose target holds an RTS comes back to (address of JSR) + 3 with every
register, flag and SP as before; only stack bytes have changed. -/
def Obligations.JsrThenRtsComesBackBalanced : Prop :=
  ∀ s t u : State, s.run = .running → s.haltReq = false → s.read s.pc = 0x20 →
    step s = .next t → t.read t.pc = 0x60 → step t = .next u →
    u = { s with mem := t.mem, pc := s.pc + 3 } ∧
    ∀ a, a ≠ stackAddr s.sp → a ≠ stackAddr (s.sp - 1) → u.read a = s.read a

/-- PHA and PLA (R188, R189): A is stored at 0x0100 + SP and SP falls by 1; or SP rises by 1 and A takes the byte there,
N and Z following it. Opcode bytes: decision D6. -/
def Obligations.PhaAndPlaMoveOneByte : Prop :=
  Forms .pha [(.implied, 0x48)] ∧
  Forms .pla [(.implied, 0x68)] ∧
  ∀ s : State,
    (∃ t, exec .pha s = .next t ∧ t = { s with mem := t.mem, sp := s.sp - 1, pc := s.pc + 1 } ∧
      t.read (stackAddr s.sp) = s.a ∧ ∀ a, a ≠ stackAddr s.sp → t.read a = s.read a) ∧
    exec .pla s = .next { s with
      a := s.read (stackAddr (s.sp + 1))
      sp := s.sp + 1
      p := nz s.p (s.read (stackAddr (s.sp + 1)))
      pc := s.pc + 1 }

/-- PHP (R190) stores the status byte as PHA stores A, bits 5 and 4 always 1; the middle bits' places are the spec's own
inference (R25). A PLP after it brings the status back and changes nothing else but PC and the stack byte: the consequence
R191 marks as derived. Opcode bytes: decision D6. -/
def Obligations.PhpPushesTheStatusByteForPlp : Prop :=
  Forms .php [(.implied, 0x08)] ∧
  (∀ s : State, ∃ t, exec .php s = .next t ∧ t = { s with mem := t.mem, sp := s.sp - 1, pc := s.pc + 1 } ∧
    (t.read (stackAddr s.sp)).toNat = 128 * s.p.n.toNat + 64 * s.p.v.toNat + 32 + 16 + 8 * s.p.d.toNat
      + 4 * s.p.i.toNat + 2 * s.p.z.toNat + s.p.c.toNat ∧
    ∀ a, a ≠ stackAddr s.sp → t.read a = s.read a) ∧
  ∀ s t u : State, exec .php s = .next t → exec .plp t = .next u → u = { s with mem := t.mem, pc := s.pc + 2 }

/-- PLP (R191): the six writable flags from the pulled byte; bits 5 and 4 are ignored, U and B read 1 (90_conflicts.md
C1, decision D4). Opcode bytes: decision D6. -/
def Obligations.PlpRestoresTheWritableFlags : Prop :=
  Forms .plp [(.implied, 0x28)] ∧
  ∀ (s : State) (b : Byte), b = s.read (stackAddr (s.sp + 1)) →
    ∃ t, exec .plp s = .next t ∧
      t = { s with
        sp := s.sp + 1
        p := { n := b.getLsbD 7, v := b.getLsbD 6, d := b.getLsbD 3, i := b.getLsbD 2, z := b.getLsbD 1, c := b.getLsbD 0 }
        pc := s.pc + 1 } ∧
      t.p.u = true ∧ t.p.b = true

/-- BRK (R194, R193, R204): the frame of three bytes with I as it stood, I set, PC from the vector at 0xFFFE whatever I
holds, and the run ended unless CONTINUE_AFTER_BRK. The order and the halt after all effects are the spec's decisions D9
and D12, and that I masks nothing D14. Opcode bytes: decision D6. -/
def Obligations.BrkTakesItsTrapEntry : Prop :=
  Forms .brk [(.implied, 0x00)] ∧
  ∀ s : State, ∃ t, exec .brk s = .next t ∧
    t = { s with
      mem := t.mem
      sp := s.sp - 3
      p := { s.p with i := true }
      pc := join (s.read 0xFFFF) (s.read 0xFFFE)
      run := if s.run = .running ∧ s.config.continueAfterBrk = false then .halted .brk else s.run } ∧
    t.read (stackAddr s.sp) = highByte (s.pc + 2) ∧
    t.read (stackAddr (s.sp - 1)) = lowByte (s.pc + 2) ∧
    (t.read (stackAddr (s.sp - 2))).toNat = 128 * s.p.n.toNat + 64 * s.p.v.toNat + 32 + 16 + 8 * s.p.d.toNat
        + 4 * s.p.i.toNat + 2 * s.p.z.toNat + s.p.c.toNat ∧
    ∀ a, a ≠ stackAddr s.sp → a ≠ stackAddr (s.sp - 1) → a ≠ stackAddr (s.sp - 2) → t.read a = s.read a

/-- RTI (R195): the status byte first, bits 5 and 4 ignored so that U and B stay 1, then PC, low byte first, with no + 1.
The middle bits' places are the spec's own inference (R25). Opcode bytes: decision D6. -/
def Obligations.RtiRestoresStatusAndPc : Prop :=
  Forms .rti [(.implied, 0x40)] ∧
  ∀ (s : State) (b : Byte), b = s.read (stackAddr (s.sp + 1)) →
    ∃ t, exec .rti s = .next t ∧
      t = { s with
        sp := s.sp + 3
        p := { n := b.getLsbD 7, v := b.getLsbD 6, d := b.getLsbD 3, i := b.getLsbD 2, z := b.getLsbD 1, c := b.getLsbD 0 }
        pc := join (s.read (stackAddr (s.sp + 3))) (s.read (stackAddr (s.sp + 2))) } ∧
      t.p.u = true ∧ t.p.b = true

/-- The source's round trip (R193, S3): a continuing BRK whose handler holds an RTI comes back to (address of BRK) + 2 with
the exact pre-BRK status, and every register as before; only the three stack bytes have changed. -/
def Obligations.BrkThenRtiComesBack : Prop :=
  ∀ s t u : State, s.run = .running → s.haltReq = false → s.config.continueAfterBrk = true → s.read s.pc = 0x00 →
    step s = .next t → t.read t.pc = 0x40 → step t = .next u →
    u = { s with mem := t.mem, pc := s.pc + 2 } ∧
    ∀ a, a ≠ stackAddr s.sp → a ≠ stackAddr (s.sp - 1) → a ≠ stackAddr (s.sp - 2) → u.read a = s.read a

/-- NOP (R196) advances PC by 1 and changes nothing else. Opcode bytes: decision D6. -/
def Obligations.NopOnlyAdvances : Prop :=
  Forms .nop [(.implied, 0xEA)] ∧ ∀ s : State, exec .nop s = .next { s with pc := s.pc + 1 }

/-! ## The step, halts and run control -/

/-- The step (R95): in the Running state, the three bytes at PC decode to an instruction and the step is its execution
followed by the sample of halt_req, or they do not and the run halts with IllegalOpcode; the report is the opcode byte
and the registers after it (R98). -/
def Obligations.StepRunsTheDecodedInstruction : Prop :=
  ∀ s : State, s.run = .running →
    (∀ i, decode (s.read s.pc) (s.read (s.pc + 1)) (s.read (s.pc + 2)) = .ok i →
      i.wellFormed = true ∧ ∃ t, exec i s = .next t ∧ step s = .next
        (if t.run = .running ∧ t.haltReq = true then { t with run := .halted .cancelled } else t)) ∧
    (∀ e, decode (s.read s.pc) (s.read (s.pc + 1)) (s.read (s.pc + 2)) = .error e →
      step s = .next { s with run := .halted (.illegalOpcode (s.read s.pc) s.pc) }) ∧
    (∀ t, step s = .next t → stepReport s t = .executed (s.read s.pc) t.registers)

/-- IllegalOpcode (R201, R88): exactly the 105 listed bytes raise it; nothing but the run state changes, and PC stays at
the byte (decision D10; the list is that of decisions D6 and D7). -/
def Obligations.IllegalOpcodeHaltsAndChangesNothing : Prop :=
  ∀ s : State, s.run = .running →
    (s.read s.pc ∈ illegalBytes →
      step s = .next { s with run := .halted (.illegalOpcode (s.read s.pc) s.pc) }) ∧
    (s.read s.pc ∉ illegalBytes → ∀ t, step s = .next t → ¬ t.haltedByError)

/-- STEP in Idle or Halted changes nothing and reports the run state (R214, decision D19; log entry 6). -/
def Obligations.StepOutsideRunningChangesNothing : Prop :=
  ∀ s : State, s.run ≠ .running → step s = .next s ∧ stepReport s s = .notRunning s.run

/-- The run state after a step (R207, R212, R213; decisions D11 and D16): IllegalOpcode, then Brk, then Cancelled, else
Running. -/
def Obligations.HaltReasonsHaveOnePriority : Prop :=
  ∀ s t : State, s.run = .running → step s = .next t →
    (decodeOpcode (s.read s.pc) = none → t.run = .halted (.illegalOpcode (s.read s.pc) s.pc)) ∧
    (∀ mn mode, decodeOpcode (s.read s.pc) = some (mn, mode) →
      t.run =
        if mn = .brk ∧ s.config.continueAfterBrk = false then .halted .brk
        else if s.haltReq = true then .halted .cancelled
        else .running)

/-- RUN (R215) is STEP repeated, as the host's own run of the machine does it; it returns at once in Idle or Halted, and
at the first halt: watching it longer gives the same state. That a run is watched for a number of steps, with halt_req
constant meanwhile, is the model's way to say it (log entries 10 and 5). -/
def Obligations.RunRepeatsStepUntilHalt : Prop :=
  (∀ (k : Nat) (s : State), runFor k s = Host.Core.run Sys2Proof.core k s) ∧
  (∀ (k : Nat) (s : State), s.run ≠ .running → runFor k s = .next s) ∧
  (∀ (k n : Nat) (s t : State), runFor k s = .next t → t.run ≠ .running → runFor (k + n) s = .next t)

/-- A run that fetches only legal opcode bytes is never halted by an error: the one error is IllegalOpcode (R200). The
runs are those of runFor, watched for every number of steps, with halt_req constant during them: the model's choices (log
entries 10 and 5). -/
def Obligations.RunsOfLegalBytesAreSafe : Prop :=
  ∀ s : State, ¬ s.haltedByError →
    (∀ k t, runFor k s = .next t → t.run = .running → decodeOpcode (t.read t.pc) ≠ none) →
    SafeRun s

/-- Nothing faults (R202): every instruction, from every state, answers a next state, and so does every step; a step is
halted by an error only at an illegal opcode byte (R200, R201). That a step outside Running (R214) and a step on an
illegal opcode byte answer a next state is the model's reading (log entries 6 and 7). -/
def Obligations.NoStateAndNoInstructionFaults : Prop :=
  (∀ (i : Instr) (s : State), ∃ t, exec i s = .next t) ∧
  (∀ s : State, ∃ t, step s = .next t) ∧
  (∀ s t : State, step s = .next t → t.haltedByError →
    s.haltedByError ∨ (s.run = .running ∧ decodeOpcode (s.read s.pc) = none))

/-- The operand latch (R71): a JSR, even one whose pushes overwrite its own operand bytes, jumps to the target that stood
there when it was fetched. -/
def Obligations.JsrJumpsToTheLatchedTarget : Prop :=
  ∀ s : State, s.run = .running → s.read s.pc = 0x20 →
    ∃ t, step s = .next t ∧ t.pc = join (s.read (s.pc + 2)) (s.read (s.pc + 1)) ∧
      t.read (stackAddr s.sp) = highByte (s.pc + 2) ∧ t.read (stackAddr (s.sp - 1)) = lowByte (s.pc + 2)

/-! ## Encoding -/

/-- Decode (R93): total, and whether and as what a byte decodes depends on the opcode byte alone; 151 of the 256 bytes
are legal. -/
def Obligations.DecodeReadsOnlyTheOpcode : Prop :=
  (∀ op b1 b2 : Byte,
    (∃ i, decode op b1 b2 = .ok i ∧ decodeOpcode op = some (i.mnemonic, i.mode)) ∨
    (decode op b1 b2 = .error (.illegalOpcode op) ∧ decodeOpcode op = none ∧ op ∈ illegalBytes)) ∧
  ((List.range 256).filter fun n => (decodeOpcode (BitVec.ofNat 8 n)).isSome).length = 151

/-- The lengths (R82, R83; Implied's 1 is decision D8): an instruction takes as many bytes as its mode says, and that
number is the `Instr.length` by which the instructions that advance PC advance it. -/
def Obligations.DecodeTakesTheLengthOfTheMode : Prop :=
  ∀ (bytes rest : List Byte) (i : Instr), decodeBytes bytes = .ok (i, rest) →
    bytes.length = rest.length + i.length ∧
    (i.mode ∈ [.implied, .accumulator] → bytes.length = rest.length + 1) ∧
    (i.mode ∈ [.immediate, .zeroPage, .zeroPageX, .zeroPageY, .relative, .indexedIndirect, .indirectIndexed] →
      bytes.length = rest.length + 2) ∧
    (i.mode ∈ [.absolute, .absoluteX, .absoluteY, .indirect] → bytes.length = rest.length + 3)

/-- Decoding the encoding of any well-formed instruction, whatever bytes follow it, gives that instruction with every
operand, and the bytes that follow. -/
def Obligations.DecodeOfEncodeIsTheInstruction : Prop :=
  ∀ (i : Instr) (rest : List Byte), i.wellFormed = true → decodeBytes (encode i ++ rest) = .ok (i, rest)

/-- Bytes that decode are the encoding of the instruction they decode to, which is well-formed: no two encodings share an
instruction, and the decoder drops no bit. -/
def Obligations.EncodeOfDecodeIsTheBytes : Prop :=
  ∀ (bytes rest : List Byte) (i : Instr), decodeBytes bytes = .ok (i, rest) →
    i.wellFormed = true ∧ bytes = encode i ++ rest

/-- A few words written out from the spec's encodings, at least one for each family: the seven bytes the source's own
examples give (A9, AA, E8, 00, A2, 18, 69) among them; the others are those of decision D6. -/
def Obligations.WrittenOutWordsDecode : Prop :=
  decode 0xA9 0x05 0x77 = .ok (.ldaImmediate 0x05) ∧
  decode 0xAA 0x77 0x77 = .ok .tax ∧
  decode 0xE8 0x77 0x77 = .ok .inx ∧
  decode 0x00 0x77 0x77 = .ok .brk ∧
  decode 0xA2 0xFF 0x77 = .ok (.ldxImmediate 0xFF) ∧
  decode 0x18 0x77 0x77 = .ok .clc ∧
  decode 0x69 0x01 0x77 = .ok (.adcImmediate 0x01) ∧
  decode 0x8D 0x01 0xF0 = .ok (.staAbsolute 0xF001) ∧
  decode 0x7E 0xFF 0x02 = .ok (.rorAbsoluteX 0x02FF) ∧
  decode 0xB1 0x40 0x77 = .ok (.ldaIndirectIndexed 0x40) ∧
  decode 0x24 0x10 0x77 = .ok (.bitZeroPage 0x10) ∧
  decode 0xD0 0x80 0x77 = .ok (.bne (-128)) ∧
  decode 0x90 0x7F 0x77 = .ok (.bcc 127) ∧
  decode 0x6C 0xFF 0x02 = .ok (.jmpIndirect 0x02FF) ∧
  decode 0x02 0x77 0x77 = .error (.illegalOpcode 0x02)

/-! ## Operands and helpers -/

/-- The effective addresses (R104 to R109, R111, R112) with every wrap, and the lengths of their modes: zero-page sums
and pointers are mod 2^8, 16-bit sums mod 2^16. -/
def Obligations.EffectiveAddressesWrapAsTheirModeSays : Prop :=
  (∀ (s : State) (b1 b2 : Byte),
    (effectiveAddr s (.zeroPage b1)).toNat = b1.toNat ∧
    (effectiveAddr s (.zeroPageX b1)).toNat = (b1.toNat + s.x.toNat) % 256 ∧
    (effectiveAddr s (.zeroPageY b1)).toNat = (b1.toNat + s.y.toNat) % 256 ∧
    (effectiveAddr s (.absolute (join b2 b1))).toNat = b2.toNat * 256 + b1.toNat ∧
    (effectiveAddr s (.absoluteX (join b2 b1))).toNat = (b2.toNat * 256 + b1.toNat + s.x.toNat) % 65536 ∧
    (effectiveAddr s (.absoluteY (join b2 b1))).toNat = (b2.toNat * 256 + b1.toNat + s.y.toNat) % 65536 ∧
    (effectiveAddr s (.indexedIndirect b1)).toNat =
      (s.read (BitVec.ofNat 16 ((b1.toNat + s.x.toNat) % 256))).toNat +
        256 * (s.read (BitVec.ofNat 16 ((b1.toNat + s.x.toNat + 1) % 256))).toNat ∧
    (effectiveAddr s (.indirectIndexed b1)).toNat =
      ((s.read (BitVec.ofNat 16 b1.toNat)).toNat +
        256 * (s.read (BitVec.ofNat 16 ((b1.toNat + 1) % 256))).toNat + s.y.toNat) % 65536) ∧
  (∀ mode ∈ [Mode.zeroPage, .zeroPageX, .zeroPageY, .indexedIndirect, .indirectIndexed], mode.length = 2) ∧
  (∀ mode ∈ [Mode.absolute, .absoluteX, .absoluteY], mode.length = 3)

/-- The 16-bit reads (R53, R54): little-endian, the high byte's address wrapping mod 2^16, or within page zero. -/
def Obligations.WordReadsAreLittleEndianAndWrap : Prop :=
  ∀ (s : State) (a : Addr) (z : Byte),
    (s.read16 a).toNat = (s.read a).toNat + 256 * (s.read (BitVec.ofNat 16 ((a.toNat + 1) % 65536))).toNat ∧
    (s.readZP16 z).toNat =
      (s.read (BitVec.ofNat 16 z.toNat)).toNat + 256 * (s.read (BitVec.ofNat 16 ((z.toNat + 1) % 256))).toNat

/-- Push and Pull (R56, R57): the byte is at 0x0100 + SP, in page one whatever SP is; SP wraps mod 256; nothing detects
overflow. -/
def Obligations.StackStaysInPageOneAndWraps : Prop :=
  ∀ (s : State) (v : Byte),
    (stackAddr s.sp).toNat = 0x0100 + s.sp.toNat ∧
    (s.push v).sp.toNat = (s.sp.toNat + 255) % 256 ∧
    (s.push v).read (stackAddr s.sp) = v ∧
    (∀ a, a ≠ stackAddr s.sp → (s.push v).read a = s.read a) ∧
    s.pull.2.sp.toNat = (s.sp.toNat + 1) % 256 ∧
    s.pull.1 = s.read (BitVec.ofNat 16 (0x0100 + (s.sp.toNat + 1) % 256)) ∧
    (s.push v).pull.1 = v ∧
    (s.push v).pull.2.sp = s.sp

/-- The status byte (R25, R26): N V U B D I Z C from bit 7 down, bits 5 and 4 always 1 and ignored on the way back. The
middle bits' places are the spec's own inference from the listing order. -/
def Obligations.StatusByteHasEightFlagsInOrder : Prop :=
  (∀ p : Flags,
    p.pack.getLsbD 7 = p.n ∧ p.pack.getLsbD 6 = p.v ∧ p.pack.getLsbD 5 = true ∧ p.pack.getLsbD 4 = true ∧
    p.pack.getLsbD 3 = p.d ∧ p.pack.getLsbD 2 = p.i ∧ p.pack.getLsbD 1 = p.z ∧ p.pack.getLsbD 0 = p.c ∧
    p.u = true ∧ p.b = true ∧ Flags.unpack p.pack = p) ∧
  (∀ b : Byte, (Flags.unpack b).pack = b ||| 0x30)

/-! ## Frames over all instructions -/

/-- Memory changes only where an instruction stores; one that stores nothing leaves memory itself. -/
def Obligations.MemoryChangesOnlyWhereStored : Prop :=
  ∀ (i : Instr) (s t : State), exec i s = .next t →
    (∀ a, a ∉ writtenAddrs i s → t.read a = s.read a) ∧
    (writtenAddrs i s = [] → t.mem = s.mem)

/-- Each flag changes only by the instructions R29 lists for it. -/
def Obligations.FlagsChangeOnlyByTheirWriters : Prop :=
  ∀ (i : Instr) (s t : State), exec i s = .next t →
    (i.mnemonic ∉ [.lda, .ldx, .ldy, .tax, .tay, .txa, .tya, .tsx, .pla, .adc, .sbc, .and, .ora, .eor, .asl, .lsr, .rol,
        .ror, .inc, .dec, .inx, .iny, .dex, .dey, .cmp, .cpx, .cpy, .bit, .plp, .rti] →
      t.p.n = s.p.n ∧ t.p.z = s.p.z) ∧
    (i.mnemonic ∉ [.adc, .sbc, .asl, .rol, .lsr, .ror, .cmp, .cpx, .cpy, .clc, .sec, .plp, .rti] → t.p.c = s.p.c) ∧
    (i.mnemonic ∉ [.adc, .sbc, .bit, .clv, .plp, .rti] → t.p.v = s.p.v) ∧
    (i.mnemonic ∉ [.cld, .sed, .plp, .rti] → t.p.d = s.p.d) ∧
    (i.mnemonic ∉ [.cli, .sei, .brk, .plp, .rti] → t.p.i = s.p.i)

/-- A, X, Y and SP change only by the instructions R21 and R22 list for them. -/
def Obligations.RegistersChangeOnlyByTheirWriters : Prop :=
  ∀ (i : Instr) (s t : State), exec i s = .next t →
    (i.mnemonic ∉ [.lda, .txa, .tya, .pla, .adc, .sbc, .and, .ora, .eor] →
      ¬ (i.mnemonic ∈ [.asl, .lsr, .rol, .ror] ∧ i.mode = .accumulator) → t.a = s.a) ∧
    (i.mnemonic ∉ [.ldx, .tax, .tsx, .inx, .dex] → t.x = s.x) ∧
    (i.mnemonic ∉ [.ldy, .tay, .iny, .dey] → t.y = s.y) ∧
    (i.mnemonic ∉ [.txs, .pha, .php, .jsr, .brk, .pla, .plp, .rts, .rti] → t.sp = s.sp)

/-- Which instructions write PC themselves (R97): JMP, JSR, RTS, RTI, BRK and a taken branch; every other one advances it
by its length, which its mode gives (R82; Implied's 1 is decision D8). -/
def Obligations.OtherInstructionsAdvanceByTheirLength : Prop :=
  ∀ (i : Instr) (s t : State), exec i s = .next t →
    i.mnemonic ∉ [.jmp, .jsr, .rts, .rti, .brk] → branchTaken s.p i.mnemonic = false →
    t.pc = pcAfter i s ∧
    (i.mode ∈ [.implied, .accumulator] → t.pc = s.pc + 1) ∧
    (i.mode ∈ [.immediate, .zeroPage, .zeroPageX, .zeroPageY, .relative, .indexedIndirect, .indirectIndexed] →
      t.pc = s.pc + 2) ∧
    (i.mode ∈ [.absolute, .absoluteX, .absoluteY] → t.pc = s.pc + 3)

/-- D is settable and inert (R27): two states that differ in D alone go to states that differ in D alone, in every
instruction. PHP and BRK, which push it, differ in its pushed copy too, bit 3 of the one status byte (R25, whose middle
bits the spec infers). Those that write D leave no difference. -/
def Obligations.DecimalFlagIsInert : Prop :=
  ∀ (i : Instr) (s t : State) (d : Bool), exec i s = .next t →
    ∃ u, exec i { s with p := { s.p with d := d } } = .next u ∧
      u = { t with mem := u.mem, p := { t.p with d := u.p.d } } ∧
      (i.mnemonic ∉ [.php, .brk] → u.mem = t.mem) ∧
      (i.mnemonic ∈ [.php, .brk] → AlikeButBit u t (statusAddr i s) 3 d) ∧
      u.p.d = if i.mnemonic ∈ [.cld, .sed, .plp, .rti] then t.p.d else d

/-- I is settable and masks nothing (R28, R206; decision D14): as for D, its pushed copy being bit 2 of the status byte.
BRK is taken whatever I holds. -/
def Obligations.InterruptDisableMasksNothing : Prop :=
  ∀ (i : Instr) (s t : State) (d : Bool), exec i s = .next t →
    ∃ u, exec i { s with p := { s.p with i := d } } = .next u ∧
      u = { t with mem := u.mem, p := { t.p with i := u.p.i } } ∧
      (i.mnemonic ∉ [.php, .brk] → u.mem = t.mem) ∧
      (i.mnemonic ∈ [.php, .brk] → AlikeButBit u t (statusAddr i s) 2 d) ∧
      u.p.i = if i.mnemonic ∈ [.cli, .sei, .brk, .plp, .rti] then t.p.i else d

/-- The block never writes halt_req (R35) or its configuration (R5); of the host's commands only the halt flag's own
write changes halt_req, and none the configuration. -/
def Obligations.HostInputsAreNeverWritten : Prop :=
  ∀ (s t : State) (c : HostCommand), s.command c = .next t →
    t.config = s.config ∧ t.haltReq = match c with
      | .setHaltReq level => level
      | _ => s.haltReq

/-! ## Memory, loading and starting -/

/-- A canonical memory is determined by what it reads: memories that read alike are equal data. -/
def Obligations.CanonicalMemoriesThatReadAlikeAreEqual : Prop :=
  ∀ m n : Memory, m.wf → n.wf → (∀ a, a < 65536 → m.read a = n.read a) → m = n

/-- Every step keeps memory in its canonical form, from every state that has it. -/
def Obligations.StepKeepsMemoryCanonical : Prop :=
  ∀ s t : State, s.Inv → step s = .next t → t.Inv

/-- The machine as constructed, with any draw, and so at reset, has its memory in canonical form. -/
def Obligations.ConstructedMemoryIsCanonical : Prop :=
  (∀ init config pc haltReq, (State.construct init config pc haltReq).Inv) ∧ State.reset.Inv

/-- In every state a session with the host reaches, whatever is loaded, started, stepped or requested in whatever order,
memory is canonical. -/
def Obligations.ReachableStatesAreCanonical : Prop :=
  ∀ s : State, Reachable s → s.Inv

/-- LOAD (R75): an image that fits lands verbatim from its origin on and touches nothing else, not even the output; one
that does not fit is refused before any byte is written. -/
def Obligations.LoadCopiesTheImageOrRefusesIt : Prop :=
  ∀ (s : State) (bytes : List Byte) (origin : Addr),
    (65536 < origin.toNat + bytes.length → s.load bytes origin = (.loadOverflow, s)) ∧
    (origin.toNat + bytes.length ≤ 65536 → ∃ t, s.load bytes origin = (.ok, t) ∧
      t = { s with mem := t.mem } ∧
      (∀ (k : Nat) (h : k < bytes.length), t.read (BitVec.ofNat 16 (origin.toNat + k)) = bytes[k]) ∧
      ∀ a : Addr, (a.toNat < origin.toNat ∨ origin.toNat + bytes.length ≤ a.toNat) → t.read a = s.read a)

/-- START (R232, R233, R234; decision D13): in any run state, PC takes the override or else the reset vector at 0xFFFC,
low byte first, the machine is Running, and nothing else changes; the origin has no effect. -/
def Obligations.StartSetsPcAndRunsOnly : Prop :=
  ∀ (s : State) (origin target : Addr),
    s.start origin (some target) = { s with pc := target, run := .running } ∧
    s.start origin none = { s with pc := join (s.read 0xFFFD) (s.read 0xFFFC), run := .running }

/-- Construction (R36, R51, R230; decision D1): for every draw of INIT_REGS the registers and flags hold the draw, every
byte of memory is 0, the machine is Idle and has printed nothing. PC and halt_req are any value: the spec gives none. -/
def Obligations.ConstructionHoldsForEveryDraw : Prop :=
  ∀ (init : InitRegs) (config : Config) (pc : Addr) (haltReq : Bool) (s : State),
    s = State.construct init config pc haltReq →
    s.a = init.a ∧ s.x = init.x ∧ s.y = init.y ∧ s.sp = init.sp ∧
    s.p.n = init.n ∧ s.p.v = init.v ∧ s.p.d = init.d ∧ s.p.i = init.i ∧ s.p.z = init.z ∧ s.p.c = init.c ∧
    s.p.u = true ∧ s.p.b = true ∧ (∀ a, s.read a = 0x00) ∧ s.run = .idle ∧ s.out = []
end

