-- ==== Sys2Proof/Laws/Memory.lean ====
section
/-! SUPPORT. What the memory operations do: reading after a write, and that the canonical form is kept. -/

namespace Sys2Proof.Machine

/-- Erasing an address makes it read as unlisted, and leaves every other address. -/
theorem Memory.read_erase (m : Memory) (a b : Nat) :
    (m.erase a).read b = if b = a then Memory.unlisted else m.read b := by
  induction m with
  | nil => simp [Memory.erase, Memory.read]
  | cons c m ih =>
    obtain ⟨k, w⟩ := c
    by_cases hk : k = a
    · subst hk
      by_cases hb : b = k
      · subst hb; simpa [Memory.erase] using ih
      · simp [Memory.erase, Memory.read, ih, hb, Ne.symm hb]
    · by_cases hb : b = a
      · subst hb
        simp [Memory.erase, Memory.read, ih, hk]
      · simp [Memory.erase, Memory.read, ih, hk, hb]

/-- An inserted entry is read at its address if the list has no other entry there, and no other address changes. -/
theorem Memory.read_insert (m : Memory) (a b : Nat) (v : Byte) (h : ∀ c ∈ m, c.1 ≠ a) :
    (m.insert a v).read b = if b = a then v else m.read b := by
  induction m with
  | nil => simp [Memory.insert, Memory.read, eq_comm]
  | cons c m ih =>
    obtain ⟨k, w⟩ := c
    have hk : k ≠ a := h (k, w) (by simp)
    have ih := ih fun c hc => h c (by simp [hc])
    by_cases hlt : a < k
    · simp [Memory.insert, Memory.read, hlt, eq_comm]
    · by_cases hb : b = a
      · subst hb; simp [Memory.insert, Memory.read, hlt, ih, hk]
      · simp [Memory.insert, Memory.read, hlt, ih, hb]

theorem Memory.mem_erase {m : Memory} {a : Nat} {c : Host.Cell} :
    c ∈ m.erase a ↔ c ∈ m ∧ c.1 ≠ a := by
  induction m with
  | nil => simp [Memory.erase]
  | cons d m ih =>
    obtain ⟨k, w⟩ := d
    unfold Memory.erase
    split <;> grind

theorem Memory.mem_insert {m : Memory} {a : Nat} {v : Byte} {c : Host.Cell} :
    c ∈ m.insert a v ↔ c = (a, v) ∨ c ∈ m := by
  induction m with
  | nil => simp [Memory.insert]
  | cons d m ih =>
    obtain ⟨k, w⟩ := d
    unfold Memory.insert
    split <;> grind

/-- The law of memory: a read gives the byte last written there, and a write leaves every other address (R66). -/
theorem Memory.read_write (m : Memory) (a b : Nat) (v : Byte) :
    (m.write a v).read b = if b = a then v else m.read b := by
  unfold Memory.write
  split
  · next h => rw [Memory.read_erase, h]
  · rw [Memory.read_insert _ _ _ _ fun c hc => (Memory.mem_erase.1 hc).2, Memory.read_erase]
    split <;> rfl

theorem Memory.erase_pairwise {m : Memory} (h : m.Pairwise fun c d => c.1 < d.1) (a : Nat) :
    (m.erase a).Pairwise fun c d => c.1 < d.1 := by
  induction m with
  | nil => simp [Memory.erase]
  | cons c m ih =>
    obtain ⟨k, w⟩ := c
    rw [List.pairwise_cons] at h
    unfold Memory.erase
    split
    · exact ih h.2
    · exact List.pairwise_cons.2 ⟨fun d hd => h.1 d (Memory.mem_erase.1 hd).1, ih h.2⟩

theorem Memory.insert_pairwise {m : Memory} (h : m.Pairwise fun c d => c.1 < d.1) {a : Nat}
    (ha : ∀ c ∈ m, c.1 ≠ a) (v : Byte) : (m.insert a v).Pairwise fun c d => c.1 < d.1 := by
  induction m with
  | nil => simp [Memory.insert]
  | cons c m ih =>
    obtain ⟨k, w⟩ := c
    have hk : k ≠ a := ha (k, w) (by simp)
    have hm := List.pairwise_cons.1 h
    unfold Memory.insert
    split
    · next hlt =>
      refine List.pairwise_cons.2 ⟨fun d hd => ?_, h⟩
      rcases List.mem_cons.1 hd with rfl | hd
      · exact hlt
      · exact Nat.lt_trans hlt (hm.1 d hd)
    · next hlt =>
      refine List.pairwise_cons.2 ⟨fun d hd => ?_, ih hm.2 fun c hc => ha c (by simp [hc])⟩
      rcases Memory.mem_insert.1 hd with rfl | hd
      · show k < a
        omega
      · exact hm.1 d hd

/-- Every write keeps the canonical form. -/
theorem Memory.write_wf {m : Memory} (h : m.wf) {a : Nat} (ha : a < 65536) (v : Byte) : (m.write a v).wf := by
  have he : (m.erase a).wf :=
    ⟨Memory.erase_pairwise h.1 a, fun c hc => h.2 c (Memory.mem_erase.1 hc).1⟩
  unfold Memory.write
  split
  · exact he
  · next hv =>
    refine ⟨Memory.insert_pairwise he.1 (fun c hc => (Memory.mem_erase.1 hc).2) v, fun c hc => ?_⟩
    rcases Memory.mem_insert.1 hc with rfl | hc
    · exact ⟨ha, hv⟩
    · exact he.2 c hc

/-- The memory of a newly constructed instance is canonical. -/
theorem Memory.nil_wf : Memory.wf [] := by simp [Memory.wf]

end Sys2Proof.Machine
end

