-- ==== Sys2Proof/Laws/State.lean ====
section
/-! SUPPORT. The fields of State after each named operation, one lemma a field, so that no proof unfolds a record
update. -/

namespace Sys2Proof.Machine

/-- States with the same fields are equal. -/
theorem State.eq_of_fields {s t : State} (ha : s.a = t.a) (hx : s.x = t.x) (hy : s.y = t.y) (hsp : s.sp = t.sp)
    (hpc : s.pc = t.pc) (hp : s.p = t.p) (hmem : s.mem = t.mem) (hrun : s.run = t.run) (hout : s.out = t.out)
    (hhalt : s.haltReq = t.haltReq) (hconfig : s.config = t.config) : s = t := by
  cases s; cases t; simp_all

variable (s : State)

@[simp] theorem State.write_a (k : Addr) (v : Byte) : (s.write k v).a = s.a := rfl
@[simp] theorem State.write_x (k : Addr) (v : Byte) : (s.write k v).x = s.x := rfl
@[simp] theorem State.write_y (k : Addr) (v : Byte) : (s.write k v).y = s.y := rfl
@[simp] theorem State.write_sp (k : Addr) (v : Byte) : (s.write k v).sp = s.sp := rfl
@[simp] theorem State.write_pc (k : Addr) (v : Byte) : (s.write k v).pc = s.pc := rfl
@[simp] theorem State.write_p (k : Addr) (v : Byte) : (s.write k v).p = s.p := rfl
@[simp] theorem State.write_mem (k : Addr) (v : Byte) : (s.write k v).mem = s.mem.write k.toNat v := rfl
@[simp] theorem State.write_run (k : Addr) (v : Byte) : (s.write k v).run = s.run := rfl
@[simp] theorem State.write_out (k : Addr) (v : Byte) : (s.write k v).out = s.out := rfl
@[simp] theorem State.write_haltReq (k : Addr) (v : Byte) : (s.write k v).haltReq = s.haltReq := rfl
@[simp] theorem State.write_config (k : Addr) (v : Byte) : (s.write k v).config = s.config := rfl

@[simp] theorem State.push_a (v : Byte) : (s.push v).a = s.a := rfl
@[simp] theorem State.push_x (v : Byte) : (s.push v).x = s.x := rfl
@[simp] theorem State.push_y (v : Byte) : (s.push v).y = s.y := rfl
@[simp] theorem State.push_sp (v : Byte) : (s.push v).sp = s.sp - 1 := rfl
@[simp] theorem State.push_pc (v : Byte) : (s.push v).pc = s.pc := rfl
@[simp] theorem State.push_p (v : Byte) : (s.push v).p = s.p := rfl
@[simp] theorem State.push_mem (v : Byte) : (s.push v).mem = s.mem.write (stackAddr s.sp).toNat v := rfl
@[simp] theorem State.push_run (v : Byte) : (s.push v).run = s.run := rfl
@[simp] theorem State.push_out (v : Byte) : (s.push v).out = s.out := rfl
@[simp] theorem State.push_haltReq (v : Byte) : (s.push v).haltReq = s.haltReq := rfl
@[simp] theorem State.push_config (v : Byte) : (s.push v).config = s.config := rfl

@[simp] theorem State.pull_snd_a : (s.pull.2).a = s.a := rfl
@[simp] theorem State.pull_snd_x : (s.pull.2).x = s.x := rfl
@[simp] theorem State.pull_snd_y : (s.pull.2).y = s.y := rfl
@[simp] theorem State.pull_snd_sp : (s.pull.2).sp = s.sp + 1 := rfl
@[simp] theorem State.pull_snd_pc : (s.pull.2).pc = s.pc := rfl
@[simp] theorem State.pull_snd_p : (s.pull.2).p = s.p := rfl
@[simp] theorem State.pull_snd_mem : (s.pull.2).mem = s.mem := rfl
@[simp] theorem State.pull_snd_run : (s.pull.2).run = s.run := rfl
@[simp] theorem State.pull_snd_out : (s.pull.2).out = s.out := rfl
@[simp] theorem State.pull_snd_haltReq : (s.pull.2).haltReq = s.haltReq := rfl
@[simp] theorem State.pull_snd_config : (s.pull.2).config = s.config := rfl

@[simp] theorem State.push16_a (w : Addr) : (s.push16 w).a = s.a := rfl
@[simp] theorem State.push16_x (w : Addr) : (s.push16 w).x = s.x := rfl
@[simp] theorem State.push16_y (w : Addr) : (s.push16 w).y = s.y := rfl
@[simp] theorem State.push16_sp (w : Addr) : (s.push16 w).sp = s.sp - 1 - 1 := rfl
@[simp] theorem State.push16_pc (w : Addr) : (s.push16 w).pc = s.pc := rfl
@[simp] theorem State.push16_p (w : Addr) : (s.push16 w).p = s.p := rfl
@[simp] theorem State.push16_run (w : Addr) : (s.push16 w).run = s.run := rfl
@[simp] theorem State.push16_out (w : Addr) : (s.push16 w).out = s.out := rfl
@[simp] theorem State.push16_haltReq (w : Addr) : (s.push16 w).haltReq = s.haltReq := rfl
@[simp] theorem State.push16_config (w : Addr) : (s.push16 w).config = s.config := rfl

@[simp] theorem State.pull16_snd_a : (s.pull16.2).a = s.a := rfl
@[simp] theorem State.pull16_snd_x : (s.pull16.2).x = s.x := rfl
@[simp] theorem State.pull16_snd_y : (s.pull16.2).y = s.y := rfl
@[simp] theorem State.pull16_snd_sp : (s.pull16.2).sp = s.sp + 1 + 1 := rfl
@[simp] theorem State.pull16_snd_pc : (s.pull16.2).pc = s.pc := rfl
@[simp] theorem State.pull16_snd_p : (s.pull16.2).p = s.p := rfl
@[simp] theorem State.pull16_snd_mem : (s.pull16.2).mem = s.mem := rfl
@[simp] theorem State.pull16_snd_run : (s.pull16.2).run = s.run := rfl
@[simp] theorem State.pull16_snd_out : (s.pull16.2).out = s.out := rfl
@[simp] theorem State.pull16_snd_haltReq : (s.pull16.2).haltReq = s.haltReq := rfl
@[simp] theorem State.pull16_snd_config : (s.pull16.2).config = s.config := rfl

@[simp] theorem State.advance_a (n : Nat) : (s.advance n).a = s.a := rfl
@[simp] theorem State.advance_x (n : Nat) : (s.advance n).x = s.x := rfl
@[simp] theorem State.advance_y (n : Nat) : (s.advance n).y = s.y := rfl
@[simp] theorem State.advance_sp (n : Nat) : (s.advance n).sp = s.sp := rfl
@[simp] theorem State.advance_pc (n : Nat) : (s.advance n).pc = s.pc + BitVec.ofNat 16 n := rfl
@[simp] theorem State.advance_p (n : Nat) : (s.advance n).p = s.p := rfl
@[simp] theorem State.advance_mem (n : Nat) : (s.advance n).mem = s.mem := rfl
@[simp] theorem State.advance_run (n : Nat) : (s.advance n).run = s.run := rfl
@[simp] theorem State.advance_out (n : Nat) : (s.advance n).out = s.out := rfl
@[simp] theorem State.advance_haltReq (n : Nat) : (s.advance n).haltReq = s.haltReq := rfl
@[simp] theorem State.advance_config (n : Nat) : (s.advance n).config = s.config := rfl

@[simp] theorem State.jump_a (w : Addr) : (s.jump w).a = s.a := rfl
@[simp] theorem State.jump_x (w : Addr) : (s.jump w).x = s.x := rfl
@[simp] theorem State.jump_y (w : Addr) : (s.jump w).y = s.y := rfl
@[simp] theorem State.jump_sp (w : Addr) : (s.jump w).sp = s.sp := rfl
@[simp] theorem State.jump_pc (w : Addr) : (s.jump w).pc = w := rfl
@[simp] theorem State.jump_p (w : Addr) : (s.jump w).p = s.p := rfl
@[simp] theorem State.jump_mem (w : Addr) : (s.jump w).mem = s.mem := rfl
@[simp] theorem State.jump_run (w : Addr) : (s.jump w).run = s.run := rfl
@[simp] theorem State.jump_out (w : Addr) : (s.jump w).out = s.out := rfl
@[simp] theorem State.jump_haltReq (w : Addr) : (s.jump w).haltReq = s.haltReq := rfl
@[simp] theorem State.jump_config (w : Addr) : (s.jump w).config = s.config := rfl

@[simp] theorem State.setNZ_a (v : Byte) : (s.setNZ v).a = s.a := rfl
@[simp] theorem State.setNZ_x (v : Byte) : (s.setNZ v).x = s.x := rfl
@[simp] theorem State.setNZ_y (v : Byte) : (s.setNZ v).y = s.y := rfl
@[simp] theorem State.setNZ_sp (v : Byte) : (s.setNZ v).sp = s.sp := rfl
@[simp] theorem State.setNZ_pc (v : Byte) : (s.setNZ v).pc = s.pc := rfl
@[simp] theorem State.setNZ_p (v : Byte) : (s.setNZ v).p = s.p.setNZ v := rfl
@[simp] theorem State.setNZ_mem (v : Byte) : (s.setNZ v).mem = s.mem := rfl
@[simp] theorem State.setNZ_run (v : Byte) : (s.setNZ v).run = s.run := rfl
@[simp] theorem State.setNZ_out (v : Byte) : (s.setNZ v).out = s.out := rfl
@[simp] theorem State.setNZ_haltReq (v : Byte) : (s.setNZ v).haltReq = s.haltReq := rfl
@[simp] theorem State.setNZ_config (v : Byte) : (s.setNZ v).config = s.config := rfl

@[simp] theorem State.setFlags_a (q : Flags) : (s.setFlags q).a = s.a := rfl
@[simp] theorem State.setFlags_x (q : Flags) : (s.setFlags q).x = s.x := rfl
@[simp] theorem State.setFlags_y (q : Flags) : (s.setFlags q).y = s.y := rfl
@[simp] theorem State.setFlags_sp (q : Flags) : (s.setFlags q).sp = s.sp := rfl
@[simp] theorem State.setFlags_pc (q : Flags) : (s.setFlags q).pc = s.pc := rfl
@[simp] theorem State.setFlags_p (q : Flags) : (s.setFlags q).p = q := rfl
@[simp] theorem State.setFlags_mem (q : Flags) : (s.setFlags q).mem = s.mem := rfl
@[simp] theorem State.setFlags_run (q : Flags) : (s.setFlags q).run = s.run := rfl
@[simp] theorem State.setFlags_out (q : Flags) : (s.setFlags q).out = s.out := rfl
@[simp] theorem State.setFlags_haltReq (q : Flags) : (s.setFlags q).haltReq = s.haltReq := rfl
@[simp] theorem State.setFlags_config (q : Flags) : (s.setFlags q).config = s.config := rfl

@[simp] theorem State.loadA_a (v : Byte) : (s.loadA v).a = v := rfl
@[simp] theorem State.loadA_x (v : Byte) : (s.loadA v).x = s.x := rfl
@[simp] theorem State.loadA_y (v : Byte) : (s.loadA v).y = s.y := rfl
@[simp] theorem State.loadA_sp (v : Byte) : (s.loadA v).sp = s.sp := rfl
@[simp] theorem State.loadA_pc (v : Byte) : (s.loadA v).pc = s.pc := rfl
@[simp] theorem State.loadA_p (v : Byte) : (s.loadA v).p = s.p.setNZ v := rfl
@[simp] theorem State.loadA_mem (v : Byte) : (s.loadA v).mem = s.mem := rfl
@[simp] theorem State.loadA_run (v : Byte) : (s.loadA v).run = s.run := rfl
@[simp] theorem State.loadA_out (v : Byte) : (s.loadA v).out = s.out := rfl
@[simp] theorem State.loadA_haltReq (v : Byte) : (s.loadA v).haltReq = s.haltReq := rfl
@[simp] theorem State.loadA_config (v : Byte) : (s.loadA v).config = s.config := rfl

@[simp] theorem State.loadX_a (v : Byte) : (s.loadX v).a = s.a := rfl
@[simp] theorem State.loadX_x (v : Byte) : (s.loadX v).x = v := rfl
@[simp] theorem State.loadX_y (v : Byte) : (s.loadX v).y = s.y := rfl
@[simp] theorem State.loadX_sp (v : Byte) : (s.loadX v).sp = s.sp := rfl
@[simp] theorem State.loadX_pc (v : Byte) : (s.loadX v).pc = s.pc := rfl
@[simp] theorem State.loadX_p (v : Byte) : (s.loadX v).p = s.p.setNZ v := rfl
@[simp] theorem State.loadX_mem (v : Byte) : (s.loadX v).mem = s.mem := rfl
@[simp] theorem State.loadX_run (v : Byte) : (s.loadX v).run = s.run := rfl
@[simp] theorem State.loadX_out (v : Byte) : (s.loadX v).out = s.out := rfl
@[simp] theorem State.loadX_haltReq (v : Byte) : (s.loadX v).haltReq = s.haltReq := rfl
@[simp] theorem State.loadX_config (v : Byte) : (s.loadX v).config = s.config := rfl

@[simp] theorem State.loadY_a (v : Byte) : (s.loadY v).a = s.a := rfl
@[simp] theorem State.loadY_x (v : Byte) : (s.loadY v).x = s.x := rfl
@[simp] theorem State.loadY_y (v : Byte) : (s.loadY v).y = v := rfl
@[simp] theorem State.loadY_sp (v : Byte) : (s.loadY v).sp = s.sp := rfl
@[simp] theorem State.loadY_pc (v : Byte) : (s.loadY v).pc = s.pc := rfl
@[simp] theorem State.loadY_p (v : Byte) : (s.loadY v).p = s.p.setNZ v := rfl
@[simp] theorem State.loadY_mem (v : Byte) : (s.loadY v).mem = s.mem := rfl
@[simp] theorem State.loadY_run (v : Byte) : (s.loadY v).run = s.run := rfl
@[simp] theorem State.loadY_out (v : Byte) : (s.loadY v).out = s.out := rfl
@[simp] theorem State.loadY_haltReq (v : Byte) : (s.loadY v).haltReq = s.haltReq := rfl
@[simp] theorem State.loadY_config (v : Byte) : (s.loadY v).config = s.config := rfl

@[simp] theorem State.takeSum_a (q : Sum) : (s.takeSum q).a = q.r := rfl
@[simp] theorem State.takeSum_x (q : Sum) : (s.takeSum q).x = s.x := rfl
@[simp] theorem State.takeSum_y (q : Sum) : (s.takeSum q).y = s.y := rfl
@[simp] theorem State.takeSum_sp (q : Sum) : (s.takeSum q).sp = s.sp := rfl
@[simp] theorem State.takeSum_pc (q : Sum) : (s.takeSum q).pc = s.pc := rfl
@[simp] theorem State.takeSum_mem (q : Sum) : (s.takeSum q).mem = s.mem := rfl
@[simp] theorem State.takeSum_run (q : Sum) : (s.takeSum q).run = s.run := rfl
@[simp] theorem State.takeSum_out (q : Sum) : (s.takeSum q).out = s.out := rfl
@[simp] theorem State.takeSum_haltReq (q : Sum) : (s.takeSum q).haltReq = s.haltReq := rfl
@[simp] theorem State.takeSum_config (q : Sum) : (s.takeSum q).config = s.config := rfl

@[simp] theorem State.storeByte_a (k : Addr) (v : Byte) : (s.storeByte k v).a = s.a := by unfold State.storeByte; dsimp only; split <;> rfl
@[simp] theorem State.storeByte_x (k : Addr) (v : Byte) : (s.storeByte k v).x = s.x := by unfold State.storeByte; dsimp only; split <;> rfl
@[simp] theorem State.storeByte_y (k : Addr) (v : Byte) : (s.storeByte k v).y = s.y := by unfold State.storeByte; dsimp only; split <;> rfl
@[simp] theorem State.storeByte_sp (k : Addr) (v : Byte) : (s.storeByte k v).sp = s.sp := by unfold State.storeByte; dsimp only; split <;> rfl
@[simp] theorem State.storeByte_pc (k : Addr) (v : Byte) : (s.storeByte k v).pc = s.pc := by unfold State.storeByte; dsimp only; split <;> rfl
@[simp] theorem State.storeByte_p (k : Addr) (v : Byte) : (s.storeByte k v).p = s.p := by unfold State.storeByte; dsimp only; split <;> rfl
@[simp] theorem State.storeByte_mem (k : Addr) (v : Byte) : (s.storeByte k v).mem = s.mem.write k.toNat v := by unfold State.storeByte; dsimp only; split <;> rfl
@[simp] theorem State.storeByte_run (k : Addr) (v : Byte) : (s.storeByte k v).run = s.run := by unfold State.storeByte; dsimp only; split <;> rfl
@[simp] theorem State.storeByte_haltReq (k : Addr) (v : Byte) : (s.storeByte k v).haltReq = s.haltReq := by unfold State.storeByte; dsimp only; split <;> rfl
@[simp] theorem State.storeByte_config (k : Addr) (v : Byte) : (s.storeByte k v).config = s.config := by unfold State.storeByte; dsimp only; split <;> rfl

@[simp] theorem State.halt_a (r : HaltReason) : (s.halt r).a = s.a := by unfold State.halt; split <;> rfl
@[simp] theorem State.halt_x (r : HaltReason) : (s.halt r).x = s.x := by unfold State.halt; split <;> rfl
@[simp] theorem State.halt_y (r : HaltReason) : (s.halt r).y = s.y := by unfold State.halt; split <;> rfl
@[simp] theorem State.halt_sp (r : HaltReason) : (s.halt r).sp = s.sp := by unfold State.halt; split <;> rfl
@[simp] theorem State.halt_pc (r : HaltReason) : (s.halt r).pc = s.pc := by unfold State.halt; split <;> rfl
@[simp] theorem State.halt_p (r : HaltReason) : (s.halt r).p = s.p := by unfold State.halt; split <;> rfl
@[simp] theorem State.halt_mem (r : HaltReason) : (s.halt r).mem = s.mem := by unfold State.halt; split <;> rfl
@[simp] theorem State.halt_out (r : HaltReason) : (s.halt r).out = s.out := by unfold State.halt; split <;> rfl
@[simp] theorem State.halt_haltReq (r : HaltReason) : (s.halt r).haltReq = s.haltReq := by unfold State.halt; split <;> rfl
@[simp] theorem State.halt_config (r : HaltReason) : (s.halt r).config = s.config := by unfold State.halt; split <;> rfl

@[simp] theorem State.raiseIllegalOpcode_a (op : Byte) : (s.raiseIllegalOpcode op).a = s.a := rfl
@[simp] theorem State.raiseIllegalOpcode_x (op : Byte) : (s.raiseIllegalOpcode op).x = s.x := rfl
@[simp] theorem State.raiseIllegalOpcode_y (op : Byte) : (s.raiseIllegalOpcode op).y = s.y := rfl
@[simp] theorem State.raiseIllegalOpcode_sp (op : Byte) : (s.raiseIllegalOpcode op).sp = s.sp := rfl
@[simp] theorem State.raiseIllegalOpcode_pc (op : Byte) : (s.raiseIllegalOpcode op).pc = s.pc := rfl
@[simp] theorem State.raiseIllegalOpcode_p (op : Byte) : (s.raiseIllegalOpcode op).p = s.p := rfl
@[simp] theorem State.raiseIllegalOpcode_mem (op : Byte) : (s.raiseIllegalOpcode op).mem = s.mem := rfl
@[simp] theorem State.raiseIllegalOpcode_run (op : Byte) : (s.raiseIllegalOpcode op).run = .halted (.illegalOpcode op s.pc) := rfl
@[simp] theorem State.raiseIllegalOpcode_out (op : Byte) : (s.raiseIllegalOpcode op).out = s.out := rfl
@[simp] theorem State.raiseIllegalOpcode_haltReq (op : Byte) : (s.raiseIllegalOpcode op).haltReq = s.haltReq := rfl
@[simp] theorem State.raiseIllegalOpcode_config (op : Byte) : (s.raiseIllegalOpcode op).config = s.config := rfl

@[simp] theorem State.sampleHaltReq_a : (s.sampleHaltReq).a = s.a := by unfold State.sampleHaltReq; split <;> simp
@[simp] theorem State.sampleHaltReq_x : (s.sampleHaltReq).x = s.x := by unfold State.sampleHaltReq; split <;> simp
@[simp] theorem State.sampleHaltReq_y : (s.sampleHaltReq).y = s.y := by unfold State.sampleHaltReq; split <;> simp
@[simp] theorem State.sampleHaltReq_sp : (s.sampleHaltReq).sp = s.sp := by unfold State.sampleHaltReq; split <;> simp
@[simp] theorem State.sampleHaltReq_pc : (s.sampleHaltReq).pc = s.pc := by unfold State.sampleHaltReq; split <;> simp
@[simp] theorem State.sampleHaltReq_p : (s.sampleHaltReq).p = s.p := by unfold State.sampleHaltReq; split <;> simp
@[simp] theorem State.sampleHaltReq_mem : (s.sampleHaltReq).mem = s.mem := by unfold State.sampleHaltReq; split <;> simp
@[simp] theorem State.sampleHaltReq_out : (s.sampleHaltReq).out = s.out := by unfold State.sampleHaltReq; split <;> simp
@[simp] theorem State.sampleHaltReq_haltReq : (s.sampleHaltReq).haltReq = s.haltReq := by unfold State.sampleHaltReq; split <;> simp
@[simp] theorem State.sampleHaltReq_config : (s.sampleHaltReq).config = s.config := by unfold State.sampleHaltReq; split <;> simp

@[simp] theorem State.endRunByBrk_a : (s.endRunByBrk).a = s.a := by unfold State.endRunByBrk; split <;> simp
@[simp] theorem State.endRunByBrk_x : (s.endRunByBrk).x = s.x := by unfold State.endRunByBrk; split <;> simp
@[simp] theorem State.endRunByBrk_y : (s.endRunByBrk).y = s.y := by unfold State.endRunByBrk; split <;> simp
@[simp] theorem State.endRunByBrk_sp : (s.endRunByBrk).sp = s.sp := by unfold State.endRunByBrk; split <;> simp
@[simp] theorem State.endRunByBrk_pc : (s.endRunByBrk).pc = s.pc := by unfold State.endRunByBrk; split <;> simp
@[simp] theorem State.endRunByBrk_p : (s.endRunByBrk).p = s.p := by unfold State.endRunByBrk; split <;> simp
@[simp] theorem State.endRunByBrk_mem : (s.endRunByBrk).mem = s.mem := by unfold State.endRunByBrk; split <;> simp
@[simp] theorem State.endRunByBrk_out : (s.endRunByBrk).out = s.out := by unfold State.endRunByBrk; split <;> simp
@[simp] theorem State.endRunByBrk_haltReq : (s.endRunByBrk).haltReq = s.haltReq := by unfold State.endRunByBrk; split <;> simp
@[simp] theorem State.endRunByBrk_config : (s.endRunByBrk).config = s.config := by unfold State.endRunByBrk; split <;> simp

@[simp] theorem State.setHaltReq_a (l : Bool) : (s.setHaltReq l).a = s.a := rfl
@[simp] theorem State.setHaltReq_x (l : Bool) : (s.setHaltReq l).x = s.x := rfl
@[simp] theorem State.setHaltReq_y (l : Bool) : (s.setHaltReq l).y = s.y := rfl
@[simp] theorem State.setHaltReq_sp (l : Bool) : (s.setHaltReq l).sp = s.sp := rfl
@[simp] theorem State.setHaltReq_pc (l : Bool) : (s.setHaltReq l).pc = s.pc := rfl
@[simp] theorem State.setHaltReq_p (l : Bool) : (s.setHaltReq l).p = s.p := rfl
@[simp] theorem State.setHaltReq_mem (l : Bool) : (s.setHaltReq l).mem = s.mem := rfl
@[simp] theorem State.setHaltReq_run (l : Bool) : (s.setHaltReq l).run = s.run := rfl
@[simp] theorem State.setHaltReq_out (l : Bool) : (s.setHaltReq l).out = s.out := rfl
@[simp] theorem State.setHaltReq_haltReq (l : Bool) : (s.setHaltReq l).haltReq = l := rfl
@[simp] theorem State.setHaltReq_config (l : Bool) : (s.setHaltReq l).config = s.config := rfl

@[simp] theorem State.start_a (o : Addr) (q : Option Addr) : (s.start o q).a = s.a := rfl
@[simp] theorem State.start_x (o : Addr) (q : Option Addr) : (s.start o q).x = s.x := rfl
@[simp] theorem State.start_y (o : Addr) (q : Option Addr) : (s.start o q).y = s.y := rfl
@[simp] theorem State.start_sp (o : Addr) (q : Option Addr) : (s.start o q).sp = s.sp := rfl
@[simp] theorem State.start_p (o : Addr) (q : Option Addr) : (s.start o q).p = s.p := rfl
@[simp] theorem State.start_mem (o : Addr) (q : Option Addr) : (s.start o q).mem = s.mem := rfl
@[simp] theorem State.start_run (o : Addr) (q : Option Addr) : (s.start o q).run = .running := rfl
@[simp] theorem State.start_out (o : Addr) (q : Option Addr) : (s.start o q).out = s.out := rfl
@[simp] theorem State.start_haltReq (o : Addr) (q : Option Addr) : (s.start o q).haltReq = s.haltReq := rfl
@[simp] theorem State.start_config (o : Addr) (q : Option Addr) : (s.start o q).config = s.config := rfl

@[simp] theorem State.takeBrk_a : (s.takeBrk).a = s.a := by simp [State.takeBrk]
@[simp] theorem State.takeBrk_x : (s.takeBrk).x = s.x := by simp [State.takeBrk]
@[simp] theorem State.takeBrk_y : (s.takeBrk).y = s.y := by simp [State.takeBrk]
@[simp] theorem State.takeBrk_sp : (s.takeBrk).sp = s.sp - 1 - 1 - 1 := by simp [State.takeBrk]
@[simp] theorem State.takeBrk_p : (s.takeBrk).p = s.p.setI true := by simp [State.takeBrk]
@[simp] theorem State.takeBrk_run : (s.takeBrk).run = s.run := by simp [State.takeBrk]
@[simp] theorem State.takeBrk_out : (s.takeBrk).out = s.out := by simp [State.takeBrk]
@[simp] theorem State.takeBrk_haltReq : (s.takeBrk).haltReq = s.haltReq := by simp [State.takeBrk]
@[simp] theorem State.takeBrk_config : (s.takeBrk).config = s.config := by simp [State.takeBrk]

@[simp] theorem State.returnFromBrk_a : (s.returnFromBrk).a = s.a := rfl
@[simp] theorem State.returnFromBrk_x : (s.returnFromBrk).x = s.x := rfl
@[simp] theorem State.returnFromBrk_y : (s.returnFromBrk).y = s.y := rfl
@[simp] theorem State.returnFromBrk_sp : (s.returnFromBrk).sp = s.sp + 1 + 1 + 1 := rfl
@[simp] theorem State.returnFromBrk_p : (s.returnFromBrk).p = Flags.unpack s.pull.1 := rfl
@[simp] theorem State.returnFromBrk_mem : (s.returnFromBrk).mem = s.mem := rfl
@[simp] theorem State.returnFromBrk_run : (s.returnFromBrk).run = s.run := rfl
@[simp] theorem State.returnFromBrk_out : (s.returnFromBrk).out = s.out := rfl
@[simp] theorem State.returnFromBrk_haltReq : (s.returnFromBrk).haltReq = s.haltReq := rfl
@[simp] theorem State.returnFromBrk_config : (s.returnFromBrk).config = s.config := rfl

@[simp] theorem State.placeBytes_a (vs : List Byte) : ∀ (s : State) (k : Addr), (s.placeBytes k vs).a = s.a := by
  induction vs with
  | nil => intro s k; rfl
  | cons v vs ih => intro s k; simp [State.placeBytes, ih]

@[simp] theorem State.placeBytes_x (vs : List Byte) : ∀ (s : State) (k : Addr), (s.placeBytes k vs).x = s.x := by
  induction vs with
  | nil => intro s k; rfl
  | cons v vs ih => intro s k; simp [State.placeBytes, ih]

@[simp] theorem State.placeBytes_y (vs : List Byte) : ∀ (s : State) (k : Addr), (s.placeBytes k vs).y = s.y := by
  induction vs with
  | nil => intro s k; rfl
  | cons v vs ih => intro s k; simp [State.placeBytes, ih]

@[simp] theorem State.placeBytes_sp (vs : List Byte) : ∀ (s : State) (k : Addr), (s.placeBytes k vs).sp = s.sp := by
  induction vs with
  | nil => intro s k; rfl
  | cons v vs ih => intro s k; simp [State.placeBytes, ih]

@[simp] theorem State.placeBytes_pc (vs : List Byte) : ∀ (s : State) (k : Addr), (s.placeBytes k vs).pc = s.pc := by
  induction vs with
  | nil => intro s k; rfl
  | cons v vs ih => intro s k; simp [State.placeBytes, ih]

@[simp] theorem State.placeBytes_p (vs : List Byte) : ∀ (s : State) (k : Addr), (s.placeBytes k vs).p = s.p := by
  induction vs with
  | nil => intro s k; rfl
  | cons v vs ih => intro s k; simp [State.placeBytes, ih]

@[simp] theorem State.placeBytes_run (vs : List Byte) : ∀ (s : State) (k : Addr), (s.placeBytes k vs).run = s.run := by
  induction vs with
  | nil => intro s k; rfl
  | cons v vs ih => intro s k; simp [State.placeBytes, ih]

@[simp] theorem State.placeBytes_out (vs : List Byte) : ∀ (s : State) (k : Addr), (s.placeBytes k vs).out = s.out := by
  induction vs with
  | nil => intro s k; rfl
  | cons v vs ih => intro s k; simp [State.placeBytes, ih]

@[simp] theorem State.placeBytes_haltReq (vs : List Byte) : ∀ (s : State) (k : Addr), (s.placeBytes k vs).haltReq = s.haltReq := by
  induction vs with
  | nil => intro s k; rfl
  | cons v vs ih => intro s k; simp [State.placeBytes, ih]

@[simp] theorem State.placeBytes_config (vs : List Byte) : ∀ (s : State) (k : Addr), (s.placeBytes k vs).config = s.config := by
  induction vs with
  | nil => intro s k; rfl
  | cons v vs ih => intro s k; simp [State.placeBytes, ih]

@[simp] theorem Flags.setNZ_d (p : Flags) (v : Byte) : (p.setNZ v).d = p.d := rfl
@[simp] theorem Flags.setNZ_v (p : Flags) (v : Byte) : (p.setNZ v).v = p.v := rfl
@[simp] theorem Flags.setNZ_i (p : Flags) (v : Byte) : (p.setNZ v).i = p.i := rfl
@[simp] theorem Flags.setNZ_c (p : Flags) (v : Byte) : (p.setNZ v).c = p.c := rfl

end Sys2Proof.Machine
end

