-- ==== Sys2Proof/Laws/Ops.lean ====
section
/-! SUPPORT. What each shared operation does, said once: what a byte of memory reads after it, what it reads from the
stack, and that it keeps the invariant. Proofs cite these instead of unfolding the operation. -/

namespace Sys2Proof.Machine

variable (s : State)

/-! ## Reads -/

theorem State.read_write (a b : Addr) (v : Byte) :
    (s.write a v).read b = if b = a then v else s.read b := by
  simp only [State.read, State.write_mem, Memory.read_write, BitVec.toNat_inj]

/-- Two states with the same memory read alike. -/
theorem State.read_congr {s t : State} (h : t.mem = s.mem) (a : Addr) : t.read a = s.read a := by
  simp only [State.read, h]

@[simp] theorem State.read_push (v : Byte) (b : Addr) :
    (s.push v).read b = if b = stackAddr s.sp then v else s.read b := by
  rw [← State.read_write]; rfl

@[simp] theorem State.read_push16 (w b : Addr) :
    (s.push16 w).read b =
      if b = stackAddr (s.sp - 1) then lowByte w
      else if b = stackAddr s.sp then highByte w else s.read b := by
  simp only [State.push16, State.read_push, State.push_sp]

@[simp] theorem State.read_storeByte (ea b : Addr) (v : Byte) :
    (s.storeByte ea v).read b = if b = ea then v else s.read b := by
  rw [← State.read_write]; exact State.read_congr (by simp) b

@[simp] theorem State.read_advance (n : Nat) (b : Addr) : (s.advance n).read b = s.read b := rfl
@[simp] theorem State.read_jump (w b : Addr) : (s.jump w).read b = s.read b := rfl
@[simp] theorem State.read_setNZ (v : Byte) (b : Addr) : (s.setNZ v).read b = s.read b := rfl
@[simp] theorem State.read_setFlags (q : Flags) (b : Addr) : (s.setFlags q).read b = s.read b := rfl
@[simp] theorem State.read_loadA (v : Byte) (b : Addr) : (s.loadA v).read b = s.read b := rfl
@[simp] theorem State.read_loadX (v : Byte) (b : Addr) : (s.loadX v).read b = s.read b := rfl
@[simp] theorem State.read_loadY (v : Byte) (b : Addr) : (s.loadY v).read b = s.read b := rfl
@[simp] theorem State.read_takeSum (q : Sum) (b : Addr) : (s.takeSum q).read b = s.read b := rfl
@[simp] theorem State.read_pull (b : Addr) : s.pull.2.read b = s.read b := rfl
@[simp] theorem State.read_pull16 (b : Addr) : s.pull16.2.read b = s.read b := rfl
@[simp] theorem State.read_halt (r : HaltReason) (b : Addr) : (s.halt r).read b = s.read b :=
  State.read_congr (by simp) b
@[simp] theorem State.read_endRunByBrk (b : Addr) : s.endRunByBrk.read b = s.read b :=
  State.read_congr (by simp) b
@[simp] theorem State.read_sampleHaltReq (b : Addr) : s.sampleHaltReq.read b = s.read b :=
  State.read_congr (by simp) b

/-! ## The stack -/

/-- The stack byte of an SP value is in page one (R56). -/
theorem stackAddr_toNat (sp : Byte) : (stackAddr sp).toNat = 256 + sp.toNat := by
  have := sp.isLt
  simp [stackAddr, zext16, BitVec.toNat_add]; omega

@[simp] theorem stackAddr_inj {p q : Byte} : stackAddr p = stackAddr q ↔ p = q := by
  constructor
  · intro h
    have := congrArg BitVec.toNat h
    rw [stackAddr_toNat, stackAddr_toNat] at this
    exact BitVec.eq_of_toNat_eq (by omega)
  · rintro rfl; rfl

theorem State.pull_fst : s.pull.1 = s.read (stackAddr (s.sp + 1)) := rfl

theorem State.pull16_fst :
    s.pull16.1 = join (s.read (stackAddr (s.sp + 1 + 1))) (s.read (stackAddr (s.sp + 1))) := rfl

/-! ## Bytes and words -/

theorem join_toNat (hi lo : Byte) : (join hi lo).toNat = hi.toNat * 256 + lo.toNat := by
  have := hi.isLt; have := lo.isLt
  simp [join]; omega

@[simp] theorem highByte_join (hi lo : Byte) : highByte (join hi lo) = hi := by
  apply BitVec.eq_of_toNat_eq
  have := hi.isLt; have := lo.isLt
  simp [highByte, join_toNat]; omega

@[simp] theorem lowByte_join (hi lo : Byte) : lowByte (join hi lo) = lo := by
  apply BitVec.eq_of_toNat_eq
  have := hi.isLt; have := lo.isLt
  simp [lowByte, join_toNat]; omega

@[simp] theorem join_high_low (w : Addr) : join (highByte w) (lowByte w) = w := by
  apply BitVec.eq_of_toNat_eq
  have := w.isLt
  rw [join_toNat]
  simp [highByte, lowByte]; omega

/-- The offset a branch's byte stands for is in range, and the byte comes back from it (R86). -/
theorem signed8_range (v : Byte) : -128 ≤ signed8 v ∧ signed8 v ≤ 127 := by
  have := v.isLt
  unfold signed8; split <;> omega

theorem signed8_eq_toInt (v : Byte) : signed8 v = v.toInt := by
  unfold signed8
  rw [BitVec.toInt_eq_toNat_cond]
  split <;> split <;> omega

@[simp] theorem offsetByte_signed8 (v : Byte) : offsetByte (signed8 v) = v := by
  rw [signed8_eq_toInt, offsetByte, BitVec.ofInt_toInt]

/-! ## Trap entry -/

/-- What BRK's entry leaves in memory: the three bytes of the frame of R193, and every other byte as it was. -/
theorem State.read_takeBrk (b : Addr) :
    s.takeBrk.read b =
      if b = stackAddr (s.sp - 1 - 1) then s.p.pack
      else if b = stackAddr (s.sp - 1) then lowByte (s.pc + 2)
      else if b = stackAddr s.sp then highByte (s.pc + 2) else s.read b := by
  simp only [State.takeBrk, State.read_jump, State.read_setFlags, State.read_push, State.read_push16,
    State.push16_sp, State.push16_p]

/-- No stack byte is a vector byte (R67). -/
theorem stackAddr_ne_vector (sp : Byte) : (0xFFFE : Addr) ≠ stackAddr sp ∧ (0xFFFE : Addr) + 1 ≠ stackAddr sp := by
  constructor <;>
  · intro h
    have := congrArg BitVec.toNat h
    rw [stackAddr_toNat] at this
    have := sp.isLt
    simp at *; omega

/-- BRK's entry loads PC from the vector; the frame does not reach it. -/
theorem State.takeBrk_pc : s.takeBrk.pc = s.read16 0xFFFE := by
  have h := fun sp => (stackAddr_ne_vector sp).1
  have h' := fun sp => (stackAddr_ne_vector sp).2
  simp only [State.takeBrk, State.jump_pc, State.read16, State.read_setFlags, State.read_push, State.read_push16, h, h',
    if_false]

/-- BRK's entry as one record: everything it changes. -/
theorem State.takeBrk_eq :
    s.takeBrk = { s with
      mem := s.takeBrk.mem, sp := s.sp - 1 - 1 - 1, p := s.p.setI true, pc := s.read16 0xFFFE } :=
  State.eq_of_fields (State.takeBrk_a s) (State.takeBrk_x s) (State.takeBrk_y s) (State.takeBrk_sp s)
    (State.takeBrk_pc s) (State.takeBrk_p s) (by simp only) (State.takeBrk_run s) (State.takeBrk_out s)
    (State.takeBrk_haltReq s) (State.takeBrk_config s)

/-- The end of a BRK touches the run state alone. -/
theorem State.endRunByBrk_eq :
    s.endRunByBrk = { s with
      run := if s.run = .running ∧ s.config.continueAfterBrk = false then .halted .brk else s.run } := by
  unfold State.endRunByBrk State.halt
  cases h : s.config.continueAfterBrk <;> by_cases hr : s.run = .running <;> simp [hr]
  · rw [← hr]

/-! ## The status byte -/

theorem Flags.unpack_pack (p : Flags) : Flags.unpack p.pack = p := by
  obtain ⟨n, v, d, i, z, c⟩ := p
  revert n v d i z c
  decide

/-- D is bit 3 of the status byte and no other bit of it. -/
theorem Flags.pack_with_d (p : Flags) (d : Bool) {k : Nat} (hk : k < 8) :
    ({ p with d := d } : Flags).pack.getLsbD k = if k = 3 then d else p.pack.getLsbD k := by
  obtain ⟨n, v, e, i, z, c⟩ := p
  revert n v e i z c d k
  decide +kernel

/-- I is bit 2 of the status byte and no other bit of it. -/
theorem Flags.pack_with_i (p : Flags) (d : Bool) {k : Nat} (hk : k < 8) :
    ({ p with i := d } : Flags).pack.getLsbD k = if k = 2 then d else p.pack.getLsbD k := by
  obtain ⟨n, v, e, i, z, c⟩ := p
  revert n v e i z c d k
  decide +kernel

/-! ## The invariant -/

theorem State.inv_write {s : State} (h : s.Inv) (a : Addr) (v : Byte) : (s.write a v).Inv :=
  Memory.write_wf h a.isLt v

theorem State.inv_congr {s t : State} (hm : t.mem = s.mem) (h : s.Inv) : t.Inv := by
  unfold State.Inv; rw [hm]; exact h

theorem State.inv_push {s : State} (h : s.Inv) (v : Byte) : (s.push v).Inv := State.inv_write h _ v

theorem State.inv_push16 {s : State} (h : s.Inv) (w : Addr) : (s.push16 w).Inv :=
  State.inv_push (State.inv_push h _) _

theorem State.inv_storeByte {s : State} (h : s.Inv) (ea : Addr) (v : Byte) : (s.storeByte ea v).Inv :=
  State.inv_congr (by simp) (State.inv_write h ea v)

theorem State.inv_takeBrk {s : State} (h : s.Inv) : s.takeBrk.Inv :=
  State.inv_congr (s := (s.push16 (s.pc + 2)).push (s.push16 (s.pc + 2)).p.pack) rfl
    (State.inv_push (State.inv_push16 h _) _)

theorem State.inv_locWrite {s : State} (h : s.Inv) (loc : Location) (v : Byte) : (locWrite s loc v).Inv := by
  cases loc with
  | acc => exact h
  | mem a => exact State.inv_write h a v

theorem State.inv_placeBytes (vs : List Byte) : ∀ {s : State} (_ : s.Inv) (a : Addr), (s.placeBytes a vs).Inv := by
  induction vs with
  | nil => intro s h a; exact h
  | cons v vs ih => intro s h a; exact ih (State.inv_write h a v) (a + 1)

/-! ## Placing bytes -/

/-- Bytes placed from `a` on are read back at their addresses, and every other address is left: `b` is the k-th of them
for `k = b - a` mod 2^16. -/
theorem State.read_placeBytes (vs : List Byte) (hl : vs.length ≤ 65536) :
    ∀ (s : State) (a b : Addr),
      (s.placeBytes a vs).read b = (vs[(b - a).toNat]?).getD (s.read b) := by
  induction vs with
  | nil => intro s a b; simp [State.placeBytes]
  | cons v vs ih =>
    intro s a b
    simp only [List.length_cons] at hl
    rw [State.placeBytes, ih (by omega), State.read_write]
    have hb := b.isLt
    have ha := a.isLt
    have one : (1 : Addr).toNat = 1 := rfl
    by_cases h : b = a
    · subst h
      have hs : (b - (b + 1)).toNat = 65535 := by
        simp only [BitVec.toNat_sub, BitVec.toNat_add, one]; omega
      rw [hs, List.getElem?_eq_none (by omega)]; simp
    · have hne : b.toNat ≠ a.toNat := fun e => h (BitVec.eq_of_toNat_eq e)
      have hs : (b - a).toNat = (b - (a + 1)).toNat + 1 := by
        simp only [BitVec.toNat_sub, BitVec.toNat_add, one]; omega
      rw [hs]; simp [h]

end Sys2Proof.Machine
end

