-- ==== Sys2Proof/Laws/Decode.lean ====
section
/-! SUPPORT. What the decoder does, said once: the cases of `decode`, and that every row of the opcode map (the grid of
R87) agrees with the encoder (the "Encoding" lines of the instructions' own rules). -/

namespace Sys2Proof.Laws

open Sys2Proof.Machine

/-- The operand bytes a cell takes of the two that follow the opcode byte (R81). -/
def operandBytes : MapCell → Byte → Byte → List Byte
  | .bare _, _, _ => []
  | .byte _, b1, _ => [b1]
  | .offset _, b1, _ => [b1]
  | .word _, b1, b2 => [b1, b2]

/-- A row of the map agrees with the encoder: what it builds is well-formed and is encoded as the row's opcode byte and
the operand bytes it took, and its mnemonic and mode do not depend on them. -/
def RowAgrees (row : Byte × MapCell) : Prop :=
  ∀ b1 b2, (row.2.build b1 b2).wellFormed = true ∧ (row.2.build b1 b2).opcode = row.1 ∧
    (row.2.build b1 b2).form.bytes = operandBytes row.2 b1 b2 ∧
    (row.2.build b1 b2).mnemonic = (row.2.build 0 0).mnemonic ∧ (row.2.build b1 b2).mode = (row.2.build 0 0).mode

theorem agrees_bare {op} {i : Instr} (hw : i.wellFormed = true) (ho : i.opcode = op) (hb : i.form.bytes = []) :
    RowAgrees (op, .bare i) := fun _ _ => ⟨hw, ho, hb, rfl, rfl⟩

theorem agrees_byte {op} {f : Byte → Instr} (hw : ∀ v, (f v).wellFormed = true) (ho : ∀ v, (f v).opcode = op)
    (hb : ∀ v, (f v).form.bytes = [v]) (hm : ∀ v, (f v).mnemonic = (f 0).mnemonic)
    (hd : ∀ v, (f v).mode = (f 0).mode) : RowAgrees (op, .byte f) :=
  fun b1 _ => ⟨hw b1, ho b1, hb b1, hm b1, hd b1⟩

theorem agrees_word {op} {f : Addr → Instr} (hw : ∀ v, (f v).wellFormed = true) (ho : ∀ v, (f v).opcode = op)
    (hb : ∀ v, (f v).form.bytes = [lowByte v, highByte v]) (hm : ∀ v w, (f v).mnemonic = (f w).mnemonic)
    (hd : ∀ v w, (f v).mode = (f w).mode) : RowAgrees (op, .word f) :=
  fun b1 b2 => ⟨hw _, ho _, by simp [MapCell.build, hb, operandBytes], hm _ _, hd _ _⟩

theorem agrees_offset {op} {f : Int → Instr} {mn} (hw : ∀ k, (f k).wellFormed = (decide (-128 ≤ k) && decide (k ≤ 127)))
    (ho : ∀ k, (f k).opcode = op) (hp : ∀ k, (f k).parts = (mn, .relative k)) : RowAgrees (op, .offset f) := by
  intro b1 _
  have := signed8_range b1
  simp only [MapCell.build, hw, ho, Instr.form, Instr.mnemonic, Instr.mode, hp, Form.bytes, offsetByte_signed8,
    operandBytes]
  simp [this, Form.mode]

theorem mapRow0_agrees : ∀ row ∈ mapRow0, RowAgrees row := by
  simp only [mapRow0, List.forall_mem_cons, List.not_mem_nil, false_imp_iff, implies_true, and_true]
  and_intros
  all_goals first
    | exact agrees_byte (fun _ => rfl) (fun _ => rfl) (fun _ => rfl) (fun _ => rfl) (fun _ => rfl)
    | exact agrees_word (fun _ => rfl) (fun _ => rfl) (fun _ => rfl) (fun _ _ => rfl) (fun _ _ => rfl)
    | exact agrees_bare rfl rfl rfl

theorem mapRow1_agrees : ∀ row ∈ mapRow1, RowAgrees row := by
  simp only [mapRow1, List.forall_mem_cons, List.not_mem_nil, false_imp_iff, implies_true, and_true]
  and_intros
  all_goals first
    | exact agrees_byte (fun _ => rfl) (fun _ => rfl) (fun _ => rfl) (fun _ => rfl) (fun _ => rfl)
    | exact agrees_word (fun _ => rfl) (fun _ => rfl) (fun _ => rfl) (fun _ _ => rfl) (fun _ _ => rfl)
    | exact agrees_bare rfl rfl rfl
    | exact agrees_offset (fun _ => rfl) (fun _ => rfl) (fun _ => rfl)

theorem mapRow2_agrees : ∀ row ∈ mapRow2, RowAgrees row := by
  simp only [mapRow2, List.forall_mem_cons, List.not_mem_nil, false_imp_iff, implies_true, and_true]
  and_intros
  all_goals first
    | exact agrees_byte (fun _ => rfl) (fun _ => rfl) (fun _ => rfl) (fun _ => rfl) (fun _ => rfl)
    | exact agrees_word (fun _ => rfl) (fun _ => rfl) (fun _ => rfl) (fun _ _ => rfl) (fun _ _ => rfl)
    | exact agrees_bare rfl rfl rfl

theorem mapRow3_agrees : ∀ row ∈ mapRow3, RowAgrees row := by
  simp only [mapRow3, List.forall_mem_cons, List.not_mem_nil, false_imp_iff, implies_true, and_true]
  and_intros
  all_goals first
    | exact agrees_byte (fun _ => rfl) (fun _ => rfl) (fun _ => rfl) (fun _ => rfl) (fun _ => rfl)
    | exact agrees_word (fun _ => rfl) (fun _ => rfl) (fun _ => rfl) (fun _ _ => rfl) (fun _ _ => rfl)
    | exact agrees_bare rfl rfl rfl
    | exact agrees_offset (fun _ => rfl) (fun _ => rfl) (fun _ => rfl)

theorem mapRow4_agrees : ∀ row ∈ mapRow4, RowAgrees row := by
  simp only [mapRow4, List.forall_mem_cons, List.not_mem_nil, false_imp_iff, implies_true, and_true]
  and_intros
  all_goals first
    | exact agrees_byte (fun _ => rfl) (fun _ => rfl) (fun _ => rfl) (fun _ => rfl) (fun _ => rfl)
    | exact agrees_word (fun _ => rfl) (fun _ => rfl) (fun _ => rfl) (fun _ _ => rfl) (fun _ _ => rfl)
    | exact agrees_bare rfl rfl rfl

theorem mapRow5_agrees : ∀ row ∈ mapRow5, RowAgrees row := by
  simp only [mapRow5, List.forall_mem_cons, List.not_mem_nil, false_imp_iff, implies_true, and_true]
  and_intros
  all_goals first
    | exact agrees_byte (fun _ => rfl) (fun _ => rfl) (fun _ => rfl) (fun _ => rfl) (fun _ => rfl)
    | exact agrees_word (fun _ => rfl) (fun _ => rfl) (fun _ => rfl) (fun _ _ => rfl) (fun _ _ => rfl)
    | exact agrees_bare rfl rfl rfl
    | exact agrees_offset (fun _ => rfl) (fun _ => rfl) (fun _ => rfl)

theorem mapRow6_agrees : ∀ row ∈ mapRow6, RowAgrees row := by
  simp only [mapRow6, List.forall_mem_cons, List.not_mem_nil, false_imp_iff, implies_true, and_true]
  and_intros
  all_goals first
    | exact agrees_byte (fun _ => rfl) (fun _ => rfl) (fun _ => rfl) (fun _ => rfl) (fun _ => rfl)
    | exact agrees_word (fun _ => rfl) (fun _ => rfl) (fun _ => rfl) (fun _ _ => rfl) (fun _ _ => rfl)
    | exact agrees_bare rfl rfl rfl

theorem mapRow7_agrees : ∀ row ∈ mapRow7, RowAgrees row := by
  simp only [mapRow7, List.forall_mem_cons, List.not_mem_nil, false_imp_iff, implies_true, and_true]
  and_intros
  all_goals first
    | exact agrees_byte (fun _ => rfl) (fun _ => rfl) (fun _ => rfl) (fun _ => rfl) (fun _ => rfl)
    | exact agrees_word (fun _ => rfl) (fun _ => rfl) (fun _ => rfl) (fun _ _ => rfl) (fun _ _ => rfl)
    | exact agrees_bare rfl rfl rfl
    | exact agrees_offset (fun _ => rfl) (fun _ => rfl) (fun _ => rfl)

theorem mapRow8_agrees : ∀ row ∈ mapRow8, RowAgrees row := by
  simp only [mapRow8, List.forall_mem_cons, List.not_mem_nil, false_imp_iff, implies_true, and_true]
  and_intros
  all_goals first
    | exact agrees_byte (fun _ => rfl) (fun _ => rfl) (fun _ => rfl) (fun _ => rfl) (fun _ => rfl)
    | exact agrees_word (fun _ => rfl) (fun _ => rfl) (fun _ => rfl) (fun _ _ => rfl) (fun _ _ => rfl)
    | exact agrees_bare rfl rfl rfl

theorem mapRow9_agrees : ∀ row ∈ mapRow9, RowAgrees row := by
  simp only [mapRow9, List.forall_mem_cons, List.not_mem_nil, false_imp_iff, implies_true, and_true]
  and_intros
  all_goals first
    | exact agrees_byte (fun _ => rfl) (fun _ => rfl) (fun _ => rfl) (fun _ => rfl) (fun _ => rfl)
    | exact agrees_word (fun _ => rfl) (fun _ => rfl) (fun _ => rfl) (fun _ _ => rfl) (fun _ _ => rfl)
    | exact agrees_bare rfl rfl rfl
    | exact agrees_offset (fun _ => rfl) (fun _ => rfl) (fun _ => rfl)

theorem mapRowA_agrees : ∀ row ∈ mapRowA, RowAgrees row := by
  simp only [mapRowA, List.forall_mem_cons, List.not_mem_nil, false_imp_iff, implies_true, and_true]
  and_intros
  all_goals first
    | exact agrees_byte (fun _ => rfl) (fun _ => rfl) (fun _ => rfl) (fun _ => rfl) (fun _ => rfl)
    | exact agrees_word (fun _ => rfl) (fun _ => rfl) (fun _ => rfl) (fun _ _ => rfl) (fun _ _ => rfl)
    | exact agrees_bare rfl rfl rfl

theorem mapRowB_agrees : ∀ row ∈ mapRowB, RowAgrees row := by
  simp only [mapRowB, List.forall_mem_cons, List.not_mem_nil, false_imp_iff, implies_true, and_true]
  and_intros
  all_goals first
    | exact agrees_byte (fun _ => rfl) (fun _ => rfl) (fun _ => rfl) (fun _ => rfl) (fun _ => rfl)
    | exact agrees_word (fun _ => rfl) (fun _ => rfl) (fun _ => rfl) (fun _ _ => rfl) (fun _ _ => rfl)
    | exact agrees_bare rfl rfl rfl
    | exact agrees_offset (fun _ => rfl) (fun _ => rfl) (fun _ => rfl)

theorem mapRowC_agrees : ∀ row ∈ mapRowC, RowAgrees row := by
  simp only [mapRowC, List.forall_mem_cons, List.not_mem_nil, false_imp_iff, implies_true, and_true]
  and_intros
  all_goals first
    | exact agrees_byte (fun _ => rfl) (fun _ => rfl) (fun _ => rfl) (fun _ => rfl) (fun _ => rfl)
    | exact agrees_word (fun _ => rfl) (fun _ => rfl) (fun _ => rfl) (fun _ _ => rfl) (fun _ _ => rfl)
    | exact agrees_bare rfl rfl rfl

theorem mapRowD_agrees : ∀ row ∈ mapRowD, RowAgrees row := by
  simp only [mapRowD, List.forall_mem_cons, List.not_mem_nil, false_imp_iff, implies_true, and_true]
  and_intros
  all_goals first
    | exact agrees_byte (fun _ => rfl) (fun _ => rfl) (fun _ => rfl) (fun _ => rfl) (fun _ => rfl)
    | exact agrees_word (fun _ => rfl) (fun _ => rfl) (fun _ => rfl) (fun _ _ => rfl) (fun _ _ => rfl)
    | exact agrees_bare rfl rfl rfl
    | exact agrees_offset (fun _ => rfl) (fun _ => rfl) (fun _ => rfl)

theorem mapRowE_agrees : ∀ row ∈ mapRowE, RowAgrees row := by
  simp only [mapRowE, List.forall_mem_cons, List.not_mem_nil, false_imp_iff, implies_true, and_true]
  and_intros
  all_goals first
    | exact agrees_byte (fun _ => rfl) (fun _ => rfl) (fun _ => rfl) (fun _ => rfl) (fun _ => rfl)
    | exact agrees_word (fun _ => rfl) (fun _ => rfl) (fun _ => rfl) (fun _ _ => rfl) (fun _ _ => rfl)
    | exact agrees_bare rfl rfl rfl

theorem mapRowF_agrees : ∀ row ∈ mapRowF, RowAgrees row := by
  simp only [mapRowF, List.forall_mem_cons, List.not_mem_nil, false_imp_iff, implies_true, and_true]
  and_intros
  all_goals first
    | exact agrees_byte (fun _ => rfl) (fun _ => rfl) (fun _ => rfl) (fun _ => rfl) (fun _ => rfl)
    | exact agrees_word (fun _ => rfl) (fun _ => rfl) (fun _ => rfl) (fun _ _ => rfl) (fun _ _ => rfl)
    | exact agrees_bare rfl rfl rfl
    | exact agrees_offset (fun _ => rfl) (fun _ => rfl) (fun _ => rfl)

/-- Every row of the opcode map agrees with the encoder. -/
theorem opcodeMap_agrees : ∀ row ∈ opcodeMap, RowAgrees row := by
  simp only [opcodeMap, List.forall_mem_append, and_assoc]
  exact ⟨mapRow0_agrees, mapRow1_agrees, mapRow2_agrees, mapRow3_agrees, mapRow4_agrees, mapRow5_agrees,
    mapRow6_agrees, mapRow7_agrees, mapRow8_agrees, mapRow9_agrees, mapRowA_agrees, mapRowB_agrees,
    mapRowC_agrees, mapRowD_agrees, mapRowE_agrees, mapRowF_agrees⟩

theorem mem_of_lookupOpcode {op : Byte} {cell : MapCell} {rows : List (Byte × MapCell)}
    (h : lookupOpcode op rows = some cell) : (op, cell) ∈ rows := by
  induction rows with
  | nil => cases h
  | cons c rows ih =>
    obtain ⟨k, d⟩ := c
    simp only [lookupOpcode] at h
    split at h
    · cases h; simp_all
    · exact List.mem_cons_of_mem _ (ih h)

/-- What `decode` can answer: the instruction of the opcode byte's row, or the illegal opcode. -/
theorem decode_cases (op b1 b2 : Byte) :
    (∃ cell, (op, cell) ∈ opcodeMap ∧ lookupOpcode op opcodeMap = some cell ∧
      decode op b1 b2 = .ok (cell.build b1 b2)) ∨
    (lookupOpcode op opcodeMap = none ∧ decode op b1 b2 = .error (.illegalOpcode op)) := by
  unfold decode
  cases h : lookupOpcode op opcodeMap with
  | none => exact .inr ⟨rfl, rfl⟩
  | some cell => exact .inl ⟨cell, mem_of_lookupOpcode h, rfl, rfl⟩

/-- A well-formed branch offset comes back from its byte (R86). -/
theorem signed8_offsetByte {k : Int} (h1 : -128 ≤ k) (h2 : k ≤ 127) : signed8 (offsetByte k) = k := by
  rw [signed8_eq_toInt, offsetByte, BitVec.toInt_ofInt]
  simp [Int.bmod]; omega

end Sys2Proof.Laws
end

