-- ==== Sys2Proof/Laws/Exec.lean ====
section
/-! SUPPORT. Every instruction as one operation on the state, by its mnemonic and operand form, so that proofs about a
family need not split over its forms; and what a step can do. -/

namespace Sys2Proof.Machine

/-- A form read as a value-only operand. -/
def Form.asRead : Form → ReadOperand
  | .immediate b1 => .immediate b1
  | .memory m => .memory m
  | _ => .immediate 0

/-- A form read as a read-modify-write operand. -/
def Form.asRmw : Form → RmwOperand
  | .memory m => .memory m
  | _ => .accumulator

/-- A form read as a memory operand. -/
def Form.asMem : Form → MemOperand
  | .memory m => m
  | _ => .zeroPage 0

/-- A form read as a signed offset. -/
def Form.asOffset : Form → Int
  | .relative offset => offset
  | _ => 0

/-- A form read as the target of a jump. -/
def Form.asTarget (s : State) : Form → Addr
  | .memory m => effectiveAddr s m
  | .indirect pointer => indirectTarget s pointer
  | _ => 0

/-- What each mnemonic does with its operand. -/
def meaning (s : State) (f : Form) : Mnemonic → State
  | .lda => opLda (Form.asRead f) s
  | .ldx => opLdx (Form.asRead f) s
  | .ldy => opLdy (Form.asRead f) s
  | .adc => opAdc (Form.asRead f) s
  | .sbc => opSbc (Form.asRead f) s
  | .and => opAnd (Form.asRead f) s
  | .ora => opOra (Form.asRead f) s
  | .eor => opEor (Form.asRead f) s
  | .tax => (s.loadX s.a).advance 1
  | .tay => (s.loadY s.a).advance 1
  | .txa => (s.loadA s.x).advance 1
  | .tya => (s.loadA s.y).advance 1
  | .tsx => (s.loadX s.sp).advance 1
  | .txs => { s with sp := s.x }.advance 1
  | .sta => opStore (Form.asMem f) s.a s
  | .stx => opStore (Form.asMem f) s.x s
  | .sty => opStore (Form.asMem f) s.y s
  | .asl => opShift shiftLeft (Form.asRmw f) s
  | .lsr => opShift shiftRight (Form.asRmw f) s
  | .rol => opShift (rotateLeft · s.p.c) (Form.asRmw f) s
  | .ror => opShift (rotateRight · s.p.c) (Form.asRmw f) s
  | .inc => opStepMemory (· + 1) (Form.asRmw f) s
  | .dec => opStepMemory (· - 1) (Form.asRmw f) s
  | .inx => (s.loadX (s.x + 1)).advance 1
  | .iny => (s.loadY (s.y + 1)).advance 1
  | .dex => (s.loadX (s.x - 1)).advance 1
  | .dey => (s.loadY (s.y - 1)).advance 1
  | .cmp => opCompare s.a (Form.asRead f) s
  | .cpx => opCompare s.x (Form.asRead f) s
  | .cpy => opCompare s.y (Form.asRead f) s
  | .bit => opBit (Form.asMem f) s
  | .clc => (s.setFlags (s.p.setC false)).advance 1
  | .sec => (s.setFlags (s.p.setC true)).advance 1
  | .cli => (s.setFlags (s.p.setI false)).advance 1
  | .sei => (s.setFlags (s.p.setI true)).advance 1
  | .cld => (s.setFlags (s.p.setD false)).advance 1
  | .sed => (s.setFlags (s.p.setD true)).advance 1
  | .clv => (s.setFlags (s.p.setV false)).advance 1
  | .bpl => branchIf (!s.p.n) (Form.asOffset f) s
  | .bmi => branchIf s.p.n (Form.asOffset f) s
  | .bvc => branchIf (!s.p.v) (Form.asOffset f) s
  | .bvs => branchIf s.p.v (Form.asOffset f) s
  | .bcc => branchIf (!s.p.c) (Form.asOffset f) s
  | .bcs => branchIf s.p.c (Form.asOffset f) s
  | .bne => branchIf (!s.p.z) (Form.asOffset f) s
  | .beq => branchIf s.p.z (Form.asOffset f) s
  | .jmp => s.jump (Form.asTarget s f)
  | .jsr => (s.push16 (s.pc + 2)).jump (Form.asTarget s f)
  | .rts => s.pull16.2.jump (s.pull16.1 + 1)
  | .pha => (s.push s.a).advance 1
  | .pla => (s.pull.2.loadA s.pull.1).advance 1
  | .php => (s.push s.p.pack).advance 1
  | .plp => (s.pull.2.setFlags (Flags.unpack s.pull.1)).advance 1
  | .brk => s.takeBrk.endRunByBrk
  | .rti => s.returnFromBrk
  | .nop => s.advance 1

/-! ## The fields each family's operation leaves -/

section
variable (s : State)

@[simp] theorem locWrite_x (l : Location) (v : Byte) : (locWrite s l v).x = s.x := by cases l <;> rfl
@[simp] theorem locWrite_y (l : Location) (v : Byte) : (locWrite s l v).y = s.y := by cases l <;> rfl
@[simp] theorem locWrite_sp (l : Location) (v : Byte) : (locWrite s l v).sp = s.sp := by cases l <;> rfl
@[simp] theorem locWrite_pc (l : Location) (v : Byte) : (locWrite s l v).pc = s.pc := by cases l <;> rfl
@[simp] theorem locWrite_p (l : Location) (v : Byte) : (locWrite s l v).p = s.p := by cases l <;> rfl
@[simp] theorem locWrite_run (l : Location) (v : Byte) : (locWrite s l v).run = s.run := by cases l <;> rfl
@[simp] theorem locWrite_out (l : Location) (v : Byte) : (locWrite s l v).out = s.out := by cases l <;> rfl
@[simp] theorem locWrite_haltReq (l : Location) (v : Byte) : (locWrite s l v).haltReq = s.haltReq := by cases l <;> rfl
@[simp] theorem locWrite_config (l : Location) (v : Byte) : (locWrite s l v).config = s.config := by cases l <;> rfl

@[simp] theorem opLda_x (o : ReadOperand) : (opLda o s).x = s.x := rfl
@[simp] theorem opLda_y (o : ReadOperand) : (opLda o s).y = s.y := rfl
@[simp] theorem opLda_sp (o : ReadOperand) : (opLda o s).sp = s.sp := rfl
@[simp] theorem opLda_mem (o : ReadOperand) : (opLda o s).mem = s.mem := rfl
@[simp] theorem opLda_run (o : ReadOperand) : (opLda o s).run = s.run := rfl
@[simp] theorem opLda_out (o : ReadOperand) : (opLda o s).out = s.out := rfl
@[simp] theorem opLda_haltReq (o : ReadOperand) : (opLda o s).haltReq = s.haltReq := rfl
@[simp] theorem opLda_config (o : ReadOperand) : (opLda o s).config = s.config := rfl

@[simp] theorem opLdx_a (o : ReadOperand) : (opLdx o s).a = s.a := rfl
@[simp] theorem opLdx_y (o : ReadOperand) : (opLdx o s).y = s.y := rfl
@[simp] theorem opLdx_sp (o : ReadOperand) : (opLdx o s).sp = s.sp := rfl
@[simp] theorem opLdx_mem (o : ReadOperand) : (opLdx o s).mem = s.mem := rfl
@[simp] theorem opLdx_run (o : ReadOperand) : (opLdx o s).run = s.run := rfl
@[simp] theorem opLdx_out (o : ReadOperand) : (opLdx o s).out = s.out := rfl
@[simp] theorem opLdx_haltReq (o : ReadOperand) : (opLdx o s).haltReq = s.haltReq := rfl
@[simp] theorem opLdx_config (o : ReadOperand) : (opLdx o s).config = s.config := rfl

@[simp] theorem opLdy_a (o : ReadOperand) : (opLdy o s).a = s.a := rfl
@[simp] theorem opLdy_x (o : ReadOperand) : (opLdy o s).x = s.x := rfl
@[simp] theorem opLdy_sp (o : ReadOperand) : (opLdy o s).sp = s.sp := rfl
@[simp] theorem opLdy_mem (o : ReadOperand) : (opLdy o s).mem = s.mem := rfl
@[simp] theorem opLdy_run (o : ReadOperand) : (opLdy o s).run = s.run := rfl
@[simp] theorem opLdy_out (o : ReadOperand) : (opLdy o s).out = s.out := rfl
@[simp] theorem opLdy_haltReq (o : ReadOperand) : (opLdy o s).haltReq = s.haltReq := rfl
@[simp] theorem opLdy_config (o : ReadOperand) : (opLdy o s).config = s.config := rfl

@[simp] theorem opAdc_x (o : ReadOperand) : (opAdc o s).x = s.x := rfl
@[simp] theorem opAdc_y (o : ReadOperand) : (opAdc o s).y = s.y := rfl
@[simp] theorem opAdc_sp (o : ReadOperand) : (opAdc o s).sp = s.sp := rfl
@[simp] theorem opAdc_mem (o : ReadOperand) : (opAdc o s).mem = s.mem := rfl
@[simp] theorem opAdc_run (o : ReadOperand) : (opAdc o s).run = s.run := rfl
@[simp] theorem opAdc_out (o : ReadOperand) : (opAdc o s).out = s.out := rfl
@[simp] theorem opAdc_haltReq (o : ReadOperand) : (opAdc o s).haltReq = s.haltReq := rfl
@[simp] theorem opAdc_config (o : ReadOperand) : (opAdc o s).config = s.config := rfl

@[simp] theorem opSbc_x (o : ReadOperand) : (opSbc o s).x = s.x := rfl
@[simp] theorem opSbc_y (o : ReadOperand) : (opSbc o s).y = s.y := rfl
@[simp] theorem opSbc_sp (o : ReadOperand) : (opSbc o s).sp = s.sp := rfl
@[simp] theorem opSbc_mem (o : ReadOperand) : (opSbc o s).mem = s.mem := rfl
@[simp] theorem opSbc_run (o : ReadOperand) : (opSbc o s).run = s.run := rfl
@[simp] theorem opSbc_out (o : ReadOperand) : (opSbc o s).out = s.out := rfl
@[simp] theorem opSbc_haltReq (o : ReadOperand) : (opSbc o s).haltReq = s.haltReq := rfl
@[simp] theorem opSbc_config (o : ReadOperand) : (opSbc o s).config = s.config := rfl

@[simp] theorem opAnd_x (o : ReadOperand) : (opAnd o s).x = s.x := rfl
@[simp] theorem opAnd_y (o : ReadOperand) : (opAnd o s).y = s.y := rfl
@[simp] theorem opAnd_sp (o : ReadOperand) : (opAnd o s).sp = s.sp := rfl
@[simp] theorem opAnd_mem (o : ReadOperand) : (opAnd o s).mem = s.mem := rfl
@[simp] theorem opAnd_run (o : ReadOperand) : (opAnd o s).run = s.run := rfl
@[simp] theorem opAnd_out (o : ReadOperand) : (opAnd o s).out = s.out := rfl
@[simp] theorem opAnd_haltReq (o : ReadOperand) : (opAnd o s).haltReq = s.haltReq := rfl
@[simp] theorem opAnd_config (o : ReadOperand) : (opAnd o s).config = s.config := rfl

@[simp] theorem opOra_x (o : ReadOperand) : (opOra o s).x = s.x := rfl
@[simp] theorem opOra_y (o : ReadOperand) : (opOra o s).y = s.y := rfl
@[simp] theorem opOra_sp (o : ReadOperand) : (opOra o s).sp = s.sp := rfl
@[simp] theorem opOra_mem (o : ReadOperand) : (opOra o s).mem = s.mem := rfl
@[simp] theorem opOra_run (o : ReadOperand) : (opOra o s).run = s.run := rfl
@[simp] theorem opOra_out (o : ReadOperand) : (opOra o s).out = s.out := rfl
@[simp] theorem opOra_haltReq (o : ReadOperand) : (opOra o s).haltReq = s.haltReq := rfl
@[simp] theorem opOra_config (o : ReadOperand) : (opOra o s).config = s.config := rfl

@[simp] theorem opEor_x (o : ReadOperand) : (opEor o s).x = s.x := rfl
@[simp] theorem opEor_y (o : ReadOperand) : (opEor o s).y = s.y := rfl
@[simp] theorem opEor_sp (o : ReadOperand) : (opEor o s).sp = s.sp := rfl
@[simp] theorem opEor_mem (o : ReadOperand) : (opEor o s).mem = s.mem := rfl
@[simp] theorem opEor_run (o : ReadOperand) : (opEor o s).run = s.run := rfl
@[simp] theorem opEor_out (o : ReadOperand) : (opEor o s).out = s.out := rfl
@[simp] theorem opEor_haltReq (o : ReadOperand) : (opEor o s).haltReq = s.haltReq := rfl
@[simp] theorem opEor_config (o : ReadOperand) : (opEor o s).config = s.config := rfl

@[simp] theorem opStore_a (m : MemOperand) (v : Byte) : (opStore m v s).a = s.a := by simp [opStore]
@[simp] theorem opStore_x (m : MemOperand) (v : Byte) : (opStore m v s).x = s.x := by simp [opStore]
@[simp] theorem opStore_y (m : MemOperand) (v : Byte) : (opStore m v s).y = s.y := by simp [opStore]
@[simp] theorem opStore_sp (m : MemOperand) (v : Byte) : (opStore m v s).sp = s.sp := by simp [opStore]
@[simp] theorem opStore_p (m : MemOperand) (v : Byte) : (opStore m v s).p = s.p := by simp [opStore]
@[simp] theorem opStore_run (m : MemOperand) (v : Byte) : (opStore m v s).run = s.run := by simp [opStore]
@[simp] theorem opStore_haltReq (m : MemOperand) (v : Byte) : (opStore m v s).haltReq = s.haltReq := by simp [opStore]
@[simp] theorem opStore_config (m : MemOperand) (v : Byte) : (opStore m v s).config = s.config := by simp [opStore]

@[simp] theorem opShift_x (f : Byte → Shifted) (o : RmwOperand) : (opShift f o s).x = s.x := by simp [opShift]
@[simp] theorem opShift_y (f : Byte → Shifted) (o : RmwOperand) : (opShift f o s).y = s.y := by simp [opShift]
@[simp] theorem opShift_sp (f : Byte → Shifted) (o : RmwOperand) : (opShift f o s).sp = s.sp := by simp [opShift]
@[simp] theorem opShift_run (f : Byte → Shifted) (o : RmwOperand) : (opShift f o s).run = s.run := by simp [opShift]
@[simp] theorem opShift_out (f : Byte → Shifted) (o : RmwOperand) : (opShift f o s).out = s.out := by simp [opShift]
@[simp] theorem opShift_haltReq (f : Byte → Shifted) (o : RmwOperand) : (opShift f o s).haltReq = s.haltReq := by simp [opShift]
@[simp] theorem opShift_config (f : Byte → Shifted) (o : RmwOperand) : (opShift f o s).config = s.config := by simp [opShift]

@[simp] theorem opStepMemory_x (f : Byte → Byte) (o : RmwOperand) : (opStepMemory f o s).x = s.x := by simp [opStepMemory]
@[simp] theorem opStepMemory_y (f : Byte → Byte) (o : RmwOperand) : (opStepMemory f o s).y = s.y := by simp [opStepMemory]
@[simp] theorem opStepMemory_sp (f : Byte → Byte) (o : RmwOperand) : (opStepMemory f o s).sp = s.sp := by simp [opStepMemory]
@[simp] theorem opStepMemory_run (f : Byte → Byte) (o : RmwOperand) : (opStepMemory f o s).run = s.run := by simp [opStepMemory]
@[simp] theorem opStepMemory_out (f : Byte → Byte) (o : RmwOperand) : (opStepMemory f o s).out = s.out := by simp [opStepMemory]
@[simp] theorem opStepMemory_haltReq (f : Byte → Byte) (o : RmwOperand) : (opStepMemory f o s).haltReq = s.haltReq := by simp [opStepMemory]
@[simp] theorem opStepMemory_config (f : Byte → Byte) (o : RmwOperand) : (opStepMemory f o s).config = s.config := by simp [opStepMemory]

@[simp] theorem opCompare_a (r : Byte) (o : ReadOperand) : (opCompare r o s).a = s.a := rfl
@[simp] theorem opCompare_x (r : Byte) (o : ReadOperand) : (opCompare r o s).x = s.x := rfl
@[simp] theorem opCompare_y (r : Byte) (o : ReadOperand) : (opCompare r o s).y = s.y := rfl
@[simp] theorem opCompare_sp (r : Byte) (o : ReadOperand) : (opCompare r o s).sp = s.sp := rfl
@[simp] theorem opCompare_mem (r : Byte) (o : ReadOperand) : (opCompare r o s).mem = s.mem := rfl
@[simp] theorem opCompare_run (r : Byte) (o : ReadOperand) : (opCompare r o s).run = s.run := rfl
@[simp] theorem opCompare_out (r : Byte) (o : ReadOperand) : (opCompare r o s).out = s.out := rfl
@[simp] theorem opCompare_haltReq (r : Byte) (o : ReadOperand) : (opCompare r o s).haltReq = s.haltReq := rfl
@[simp] theorem opCompare_config (r : Byte) (o : ReadOperand) : (opCompare r o s).config = s.config := rfl

@[simp] theorem opBit_a (m : MemOperand) : (opBit m s).a = s.a := rfl
@[simp] theorem opBit_x (m : MemOperand) : (opBit m s).x = s.x := rfl
@[simp] theorem opBit_y (m : MemOperand) : (opBit m s).y = s.y := rfl
@[simp] theorem opBit_sp (m : MemOperand) : (opBit m s).sp = s.sp := rfl
@[simp] theorem opBit_mem (m : MemOperand) : (opBit m s).mem = s.mem := rfl
@[simp] theorem opBit_run (m : MemOperand) : (opBit m s).run = s.run := rfl
@[simp] theorem opBit_out (m : MemOperand) : (opBit m s).out = s.out := rfl
@[simp] theorem opBit_haltReq (m : MemOperand) : (opBit m s).haltReq = s.haltReq := rfl
@[simp] theorem opBit_config (m : MemOperand) : (opBit m s).config = s.config := rfl

@[simp] theorem branchIf_a (c : Bool) (k : Int) : (branchIf c k s).a = s.a := by unfold branchIf; split <;> rfl
@[simp] theorem branchIf_x (c : Bool) (k : Int) : (branchIf c k s).x = s.x := by unfold branchIf; split <;> rfl
@[simp] theorem branchIf_y (c : Bool) (k : Int) : (branchIf c k s).y = s.y := by unfold branchIf; split <;> rfl
@[simp] theorem branchIf_sp (c : Bool) (k : Int) : (branchIf c k s).sp = s.sp := by unfold branchIf; split <;> rfl
@[simp] theorem branchIf_p (c : Bool) (k : Int) : (branchIf c k s).p = s.p := by unfold branchIf; split <;> rfl
@[simp] theorem branchIf_mem (c : Bool) (k : Int) : (branchIf c k s).mem = s.mem := by unfold branchIf; split <;> rfl
@[simp] theorem branchIf_run (c : Bool) (k : Int) : (branchIf c k s).run = s.run := by unfold branchIf; split <;> rfl
@[simp] theorem branchIf_out (c : Bool) (k : Int) : (branchIf c k s).out = s.out := by unfold branchIf; split <;> rfl
@[simp] theorem branchIf_haltReq (c : Bool) (k : Int) : (branchIf c k s).haltReq = s.haltReq := by unfold branchIf; split <;> rfl
@[simp] theorem branchIf_config (c : Bool) (k : Int) : (branchIf c k s).config = s.config := by unfold branchIf; split <;> rfl

/-- What a byte reads after `LocWrite`. -/
theorem read_locWrite (l : Location) (v : Byte) (b : Addr) :
    (locWrite s l v).read b = if l = .mem b then v else s.read b := by
  cases l with
  | acc => simp [locWrite, State.read]
  | mem a => simp [locWrite, State.read_write, eq_comm]

end

/-- Every instruction answers the next state its mnemonic gives: none faults, none is refused. -/
theorem exec_eq (i : Instr) (s : State) : exec i s = .next (meaning s i.form i.mnemonic) := by
  cases i <;> rfl

theorem exec_of_parts {i : Instr} {mn : Mnemonic} {f : Form} (h : i.parts = (mn, f)) (s : State) :
    exec i s = .next (meaning s f mn) := by
  rw [exec_eq, Instr.mnemonic, Instr.form, h]

/-- The length of an instruction is that of its form. -/
theorem length_of_parts {i : Instr} {mn : Mnemonic} {f : Form} (h : i.parts = (mn, f)) :
    i.length = f.mode.length := by
  rw [Instr.length, Instr.mode, Instr.form, h]

/-! ## The instructions with an operand, by mnemonic -/

theorem exec_lda {i : Instr} {o : ReadOperand} (h : i.parts = (.lda, o.form)) (s : State) :
    exec i s = .next (opLda o s) := by
  rw [exec_of_parts h]; cases o <;> rfl

theorem exec_ldx {i : Instr} {o : ReadOperand} (h : i.parts = (.ldx, o.form)) (s : State) :
    exec i s = .next (opLdx o s) := by
  rw [exec_of_parts h]; cases o <;> rfl

theorem exec_ldy {i : Instr} {o : ReadOperand} (h : i.parts = (.ldy, o.form)) (s : State) :
    exec i s = .next (opLdy o s) := by
  rw [exec_of_parts h]; cases o <;> rfl

theorem exec_adc {i : Instr} {o : ReadOperand} (h : i.parts = (.adc, o.form)) (s : State) :
    exec i s = .next (opAdc o s) := by
  rw [exec_of_parts h]; cases o <;> rfl

theorem exec_sbc {i : Instr} {o : ReadOperand} (h : i.parts = (.sbc, o.form)) (s : State) :
    exec i s = .next (opSbc o s) := by
  rw [exec_of_parts h]; cases o <;> rfl

theorem exec_and {i : Instr} {o : ReadOperand} (h : i.parts = (.and, o.form)) (s : State) :
    exec i s = .next (opAnd o s) := by
  rw [exec_of_parts h]; cases o <;> rfl

theorem exec_ora {i : Instr} {o : ReadOperand} (h : i.parts = (.ora, o.form)) (s : State) :
    exec i s = .next (opOra o s) := by
  rw [exec_of_parts h]; cases o <;> rfl

theorem exec_eor {i : Instr} {o : ReadOperand} (h : i.parts = (.eor, o.form)) (s : State) :
    exec i s = .next (opEor o s) := by
  rw [exec_of_parts h]; cases o <;> rfl

theorem exec_cmp {i : Instr} {o : ReadOperand} (h : i.parts = (.cmp, o.form)) (s : State) :
    exec i s = .next (opCompare s.a o s) := by
  rw [exec_of_parts h]; cases o <;> rfl

theorem exec_cpx {i : Instr} {o : ReadOperand} (h : i.parts = (.cpx, o.form)) (s : State) :
    exec i s = .next (opCompare s.x o s) := by
  rw [exec_of_parts h]; cases o <;> rfl

theorem exec_cpy {i : Instr} {o : ReadOperand} (h : i.parts = (.cpy, o.form)) (s : State) :
    exec i s = .next (opCompare s.y o s) := by
  rw [exec_of_parts h]; cases o <;> rfl

theorem exec_sta {i : Instr} {o : MemOperand} (h : i.parts = (.sta, .memory o)) (s : State) :
    exec i s = .next (opStore o s.a s) := exec_of_parts h s

theorem exec_stx {i : Instr} {o : MemOperand} (h : i.parts = (.stx, .memory o)) (s : State) :
    exec i s = .next (opStore o s.x s) := exec_of_parts h s

theorem exec_sty {i : Instr} {o : MemOperand} (h : i.parts = (.sty, .memory o)) (s : State) :
    exec i s = .next (opStore o s.y s) := exec_of_parts h s

theorem exec_bit {i : Instr} {o : MemOperand} (h : i.parts = (.bit, .memory o)) (s : State) :
    exec i s = .next (opBit o s) := exec_of_parts h s

theorem exec_asl {i : Instr} {o : RmwOperand} (h : i.parts = (.asl, o.form)) (s : State) :
    exec i s = .next (opShift shiftLeft o s) := by
  rw [exec_of_parts h]; cases o <;> rfl

theorem exec_lsr {i : Instr} {o : RmwOperand} (h : i.parts = (.lsr, o.form)) (s : State) :
    exec i s = .next (opShift shiftRight o s) := by
  rw [exec_of_parts h]; cases o <;> rfl

theorem exec_rol {i : Instr} {o : RmwOperand} (h : i.parts = (.rol, o.form)) (s : State) :
    exec i s = .next (opShift (rotateLeft · s.p.c) o s) := by
  rw [exec_of_parts h]; cases o <;> rfl

theorem exec_ror {i : Instr} {o : RmwOperand} (h : i.parts = (.ror, o.form)) (s : State) :
    exec i s = .next (opShift (rotateRight · s.p.c) o s) := by
  rw [exec_of_parts h]; cases o <;> rfl

theorem exec_inc {i : Instr} {o : RmwOperand} (h : i.parts = (.inc, o.form)) (s : State) :
    exec i s = .next (opStepMemory (· + 1) o s) := by
  rw [exec_of_parts h]; cases o <;> rfl

theorem exec_dec {i : Instr} {o : RmwOperand} (h : i.parts = (.dec, o.form)) (s : State) :
    exec i s = .next (opStepMemory (· - 1) o s) := by
  rw [exec_of_parts h]; cases o <;> rfl

/-! ## Which forms a mnemonic has (R118) -/

/-- These mnemonics only ever name a byte of memory. -/
theorem form_memory (i : Instr) (h : i.mnemonic ∈ [.sta, .stx, .sty, .inc, .dec, .bit, .jsr]) :
    ∃ m, i.form = .memory m := by
  cases i <;> first | exact ⟨_, rfl⟩ | simp [Instr.mnemonic, Instr.parts] at h

/-- A shift or rotate works on the accumulator or on a byte of memory. -/
theorem form_shift (i : Instr) (h : i.mnemonic ∈ [.asl, .lsr, .rol, .ror]) :
    i.form = .accumulator ∨ ∃ m, i.form = .memory m := by
  cases i <;> first | exact .inl rfl | exact .inr ⟨_, rfl⟩ | simp [Instr.mnemonic, Instr.parts] at h

/-- These mnemonics have a value-only operand. -/
theorem form_read (i : Instr)
    (h : i.mnemonic ∈ [.lda, .ldx, .ldy, .adc, .sbc, .and, .ora, .eor, .cmp, .cpx, .cpy]) :
    ∃ o : ReadOperand, i.form = o.form := by
  cases i <;> first
    | exact ⟨.immediate _, rfl⟩
    | exact ⟨.memory _, rfl⟩
    | simp [Instr.mnemonic, Instr.parts] at h

/-! ## Steps -/

/-- What a step can do, said once: nothing outside Running; the IllegalOpcode halt; or the decoded instruction's own
effect and the sample of halt_req. -/
theorem step_cases {s t : State} (h : step s = .next t) :
    (s.run ≠ .running ∧ t = s) ∨
    (s.run = .running ∧ decode s.fetch.op s.fetch.b1 s.fetch.b2 = .error (.illegalOpcode s.fetch.op) ∧
      t = s.raiseIllegalOpcode s.fetch.op) ∨
    (s.run = .running ∧ ∃ i, decode s.fetch.op s.fetch.b1 s.fetch.b2 = .ok i ∧
      t = (meaning s i.form i.mnemonic).sampleHaltReq) := by
  unfold step at h
  split at h
  · next hr =>
    unfold cycle at h
    dsimp only at h
    split at h
    · next i hi =>
      rw [exec_eq] at h
      exact .inr (.inr ⟨hr, i, hi, (Host.Outcome.next.inj h).symm⟩)
    · next e he =>
      refine .inr (.inl ⟨hr, ?_, (Host.Outcome.next.inj h).symm⟩)
      unfold decode at he ⊢
      split at he <;> simp_all
  · next hr => exact .inl ⟨by simp [hr], (Host.Outcome.next.inj h).symm⟩
  · next hr => exact .inl ⟨by simp [hr], (Host.Outcome.next.inj h).symm⟩

end Sys2Proof.Machine
end

