-- ==== Sys2Proof/Laws/PerInstr.lean ====
section
/-! SUPPORT. The per-instruction families of LAWS.json. -/

namespace Sys2Proof.Laws

/-- An instruction encodes to as many bytes as its mode's length (R82). -/
def EncodedLength.Statement (i : Instr) : Prop := (encode i).length = i.length

theorem EncodedLength.ldaImmediate (b1 : Byte) : EncodedLength.Statement (.ldaImmediate b1) := rfl
theorem EncodedLength.ldaZeroPage (b1 : Byte) : EncodedLength.Statement (.ldaZeroPage b1) := rfl
theorem EncodedLength.ldaZeroPageX (b1 : Byte) : EncodedLength.Statement (.ldaZeroPageX b1) := rfl
theorem EncodedLength.ldaAbsolute (addr : Addr) : EncodedLength.Statement (.ldaAbsolute addr) := rfl
theorem EncodedLength.ldaAbsoluteX (base : Addr) : EncodedLength.Statement (.ldaAbsoluteX base) := rfl
theorem EncodedLength.ldaAbsoluteY (base : Addr) : EncodedLength.Statement (.ldaAbsoluteY base) := rfl
theorem EncodedLength.ldaIndexedIndirect (b1 : Byte) : EncodedLength.Statement (.ldaIndexedIndirect b1) := rfl
theorem EncodedLength.ldaIndirectIndexed (b1 : Byte) : EncodedLength.Statement (.ldaIndirectIndexed b1) := rfl
theorem EncodedLength.ldxImmediate (b1 : Byte) : EncodedLength.Statement (.ldxImmediate b1) := rfl
theorem EncodedLength.ldxZeroPage (b1 : Byte) : EncodedLength.Statement (.ldxZeroPage b1) := rfl
theorem EncodedLength.ldxZeroPageY (b1 : Byte) : EncodedLength.Statement (.ldxZeroPageY b1) := rfl
theorem EncodedLength.ldxAbsolute (addr : Addr) : EncodedLength.Statement (.ldxAbsolute addr) := rfl
theorem EncodedLength.ldxAbsoluteY (base : Addr) : EncodedLength.Statement (.ldxAbsoluteY base) := rfl
theorem EncodedLength.ldyImmediate (b1 : Byte) : EncodedLength.Statement (.ldyImmediate b1) := rfl
theorem EncodedLength.ldyZeroPage (b1 : Byte) : EncodedLength.Statement (.ldyZeroPage b1) := rfl
theorem EncodedLength.ldyZeroPageX (b1 : Byte) : EncodedLength.Statement (.ldyZeroPageX b1) := rfl
theorem EncodedLength.ldyAbsolute (addr : Addr) : EncodedLength.Statement (.ldyAbsolute addr) := rfl
theorem EncodedLength.ldyAbsoluteX (base : Addr) : EncodedLength.Statement (.ldyAbsoluteX base) := rfl
theorem EncodedLength.tax : EncodedLength.Statement (.tax) := rfl
theorem EncodedLength.tay : EncodedLength.Statement (.tay) := rfl
theorem EncodedLength.txa : EncodedLength.Statement (.txa) := rfl
theorem EncodedLength.tya : EncodedLength.Statement (.tya) := rfl
theorem EncodedLength.tsx : EncodedLength.Statement (.tsx) := rfl
theorem EncodedLength.txs : EncodedLength.Statement (.txs) := rfl
theorem EncodedLength.staZeroPage (b1 : Byte) : EncodedLength.Statement (.staZeroPage b1) := rfl
theorem EncodedLength.staZeroPageX (b1 : Byte) : EncodedLength.Statement (.staZeroPageX b1) := rfl
theorem EncodedLength.staAbsolute (addr : Addr) : EncodedLength.Statement (.staAbsolute addr) := rfl
theorem EncodedLength.staAbsoluteX (base : Addr) : EncodedLength.Statement (.staAbsoluteX base) := rfl
theorem EncodedLength.staAbsoluteY (base : Addr) : EncodedLength.Statement (.staAbsoluteY base) := rfl
theorem EncodedLength.staIndexedIndirect (b1 : Byte) : EncodedLength.Statement (.staIndexedIndirect b1) := rfl
theorem EncodedLength.staIndirectIndexed (b1 : Byte) : EncodedLength.Statement (.staIndirectIndexed b1) := rfl
theorem EncodedLength.stxZeroPage (b1 : Byte) : EncodedLength.Statement (.stxZeroPage b1) := rfl
theorem EncodedLength.stxZeroPageY (b1 : Byte) : EncodedLength.Statement (.stxZeroPageY b1) := rfl
theorem EncodedLength.stxAbsolute (addr : Addr) : EncodedLength.Statement (.stxAbsolute addr) := rfl
theorem EncodedLength.styZeroPage (b1 : Byte) : EncodedLength.Statement (.styZeroPage b1) := rfl
theorem EncodedLength.styZeroPageX (b1 : Byte) : EncodedLength.Statement (.styZeroPageX b1) := rfl
theorem EncodedLength.styAbsolute (addr : Addr) : EncodedLength.Statement (.styAbsolute addr) := rfl
theorem EncodedLength.adcImmediate (b1 : Byte) : EncodedLength.Statement (.adcImmediate b1) := rfl
theorem EncodedLength.adcZeroPage (b1 : Byte) : EncodedLength.Statement (.adcZeroPage b1) := rfl
theorem EncodedLength.adcZeroPageX (b1 : Byte) : EncodedLength.Statement (.adcZeroPageX b1) := rfl
theorem EncodedLength.adcAbsolute (addr : Addr) : EncodedLength.Statement (.adcAbsolute addr) := rfl
theorem EncodedLength.adcAbsoluteX (base : Addr) : EncodedLength.Statement (.adcAbsoluteX base) := rfl
theorem EncodedLength.adcAbsoluteY (base : Addr) : EncodedLength.Statement (.adcAbsoluteY base) := rfl
theorem EncodedLength.adcIndexedIndirect (b1 : Byte) : EncodedLength.Statement (.adcIndexedIndirect b1) := rfl
theorem EncodedLength.adcIndirectIndexed (b1 : Byte) : EncodedLength.Statement (.adcIndirectIndexed b1) := rfl
theorem EncodedLength.sbcImmediate (b1 : Byte) : EncodedLength.Statement (.sbcImmediate b1) := rfl
theorem EncodedLength.sbcZeroPage (b1 : Byte) : EncodedLength.Statement (.sbcZeroPage b1) := rfl
theorem EncodedLength.sbcZeroPageX (b1 : Byte) : EncodedLength.Statement (.sbcZeroPageX b1) := rfl
theorem EncodedLength.sbcAbsolute (addr : Addr) : EncodedLength.Statement (.sbcAbsolute addr) := rfl
theorem EncodedLength.sbcAbsoluteX (base : Addr) : EncodedLength.Statement (.sbcAbsoluteX base) := rfl
theorem EncodedLength.sbcAbsoluteY (base : Addr) : EncodedLength.Statement (.sbcAbsoluteY base) := rfl
theorem EncodedLength.sbcIndexedIndirect (b1 : Byte) : EncodedLength.Statement (.sbcIndexedIndirect b1) := rfl
theorem EncodedLength.sbcIndirectIndexed (b1 : Byte) : EncodedLength.Statement (.sbcIndirectIndexed b1) := rfl
theorem EncodedLength.andImmediate (b1 : Byte) : EncodedLength.Statement (.andImmediate b1) := rfl
theorem EncodedLength.andZeroPage (b1 : Byte) : EncodedLength.Statement (.andZeroPage b1) := rfl
theorem EncodedLength.andZeroPageX (b1 : Byte) : EncodedLength.Statement (.andZeroPageX b1) := rfl
theorem EncodedLength.andAbsolute (addr : Addr) : EncodedLength.Statement (.andAbsolute addr) := rfl
theorem EncodedLength.andAbsoluteX (base : Addr) : EncodedLength.Statement (.andAbsoluteX base) := rfl
theorem EncodedLength.andAbsoluteY (base : Addr) : EncodedLength.Statement (.andAbsoluteY base) := rfl
theorem EncodedLength.andIndexedIndirect (b1 : Byte) : EncodedLength.Statement (.andIndexedIndirect b1) := rfl
theorem EncodedLength.andIndirectIndexed (b1 : Byte) : EncodedLength.Statement (.andIndirectIndexed b1) := rfl
theorem EncodedLength.oraImmediate (b1 : Byte) : EncodedLength.Statement (.oraImmediate b1) := rfl
theorem EncodedLength.oraZeroPage (b1 : Byte) : EncodedLength.Statement (.oraZeroPage b1) := rfl
theorem EncodedLength.oraZeroPageX (b1 : Byte) : EncodedLength.Statement (.oraZeroPageX b1) := rfl
theorem EncodedLength.oraAbsolute (addr : Addr) : EncodedLength.Statement (.oraAbsolute addr) := rfl
theorem EncodedLength.oraAbsoluteX (base : Addr) : EncodedLength.Statement (.oraAbsoluteX base) := rfl
theorem EncodedLength.oraAbsoluteY (base : Addr) : EncodedLength.Statement (.oraAbsoluteY base) := rfl
theorem EncodedLength.oraIndexedIndirect (b1 : Byte) : EncodedLength.Statement (.oraIndexedIndirect b1) := rfl
theorem EncodedLength.oraIndirectIndexed (b1 : Byte) : EncodedLength.Statement (.oraIndirectIndexed b1) := rfl
theorem EncodedLength.eorImmediate (b1 : Byte) : EncodedLength.Statement (.eorImmediate b1) := rfl
theorem EncodedLength.eorZeroPage (b1 : Byte) : EncodedLength.Statement (.eorZeroPage b1) := rfl
theorem EncodedLength.eorZeroPageX (b1 : Byte) : EncodedLength.Statement (.eorZeroPageX b1) := rfl
theorem EncodedLength.eorAbsolute (addr : Addr) : EncodedLength.Statement (.eorAbsolute addr) := rfl
theorem EncodedLength.eorAbsoluteX (base : Addr) : EncodedLength.Statement (.eorAbsoluteX base) := rfl
theorem EncodedLength.eorAbsoluteY (base : Addr) : EncodedLength.Statement (.eorAbsoluteY base) := rfl
theorem EncodedLength.eorIndexedIndirect (b1 : Byte) : EncodedLength.Statement (.eorIndexedIndirect b1) := rfl
theorem EncodedLength.eorIndirectIndexed (b1 : Byte) : EncodedLength.Statement (.eorIndirectIndexed b1) := rfl
theorem EncodedLength.aslAccumulator : EncodedLength.Statement (.aslAccumulator) := rfl
theorem EncodedLength.aslZeroPage (b1 : Byte) : EncodedLength.Statement (.aslZeroPage b1) := rfl
theorem EncodedLength.aslZeroPageX (b1 : Byte) : EncodedLength.Statement (.aslZeroPageX b1) := rfl
theorem EncodedLength.aslAbsolute (addr : Addr) : EncodedLength.Statement (.aslAbsolute addr) := rfl
theorem EncodedLength.aslAbsoluteX (base : Addr) : EncodedLength.Statement (.aslAbsoluteX base) := rfl
theorem EncodedLength.lsrAccumulator : EncodedLength.Statement (.lsrAccumulator) := rfl
theorem EncodedLength.lsrZeroPage (b1 : Byte) : EncodedLength.Statement (.lsrZeroPage b1) := rfl
theorem EncodedLength.lsrZeroPageX (b1 : Byte) : EncodedLength.Statement (.lsrZeroPageX b1) := rfl
theorem EncodedLength.lsrAbsolute (addr : Addr) : EncodedLength.Statement (.lsrAbsolute addr) := rfl
theorem EncodedLength.lsrAbsoluteX (base : Addr) : EncodedLength.Statement (.lsrAbsoluteX base) := rfl
theorem EncodedLength.rolAccumulator : EncodedLength.Statement (.rolAccumulator) := rfl
theorem EncodedLength.rolZeroPage (b1 : Byte) : EncodedLength.Statement (.rolZeroPage b1) := rfl
theorem EncodedLength.rolZeroPageX (b1 : Byte) : EncodedLength.Statement (.rolZeroPageX b1) := rfl
theorem EncodedLength.rolAbsolute (addr : Addr) : EncodedLength.Statement (.rolAbsolute addr) := rfl
theorem EncodedLength.rolAbsoluteX (base : Addr) : EncodedLength.Statement (.rolAbsoluteX base) := rfl
theorem EncodedLength.rorAccumulator : EncodedLength.Statement (.rorAccumulator) := rfl
theorem EncodedLength.rorZeroPage (b1 : Byte) : EncodedLength.Statement (.rorZeroPage b1) := rfl
theorem EncodedLength.rorZeroPageX (b1 : Byte) : EncodedLength.Statement (.rorZeroPageX b1) := rfl
theorem EncodedLength.rorAbsolute (addr : Addr) : EncodedLength.Statement (.rorAbsolute addr) := rfl
theorem EncodedLength.rorAbsoluteX (base : Addr) : EncodedLength.Statement (.rorAbsoluteX base) := rfl
theorem EncodedLength.incZeroPage (b1 : Byte) : EncodedLength.Statement (.incZeroPage b1) := rfl
theorem EncodedLength.incZeroPageX (b1 : Byte) : EncodedLength.Statement (.incZeroPageX b1) := rfl
theorem EncodedLength.incAbsolute (addr : Addr) : EncodedLength.Statement (.incAbsolute addr) := rfl
theorem EncodedLength.incAbsoluteX (base : Addr) : EncodedLength.Statement (.incAbsoluteX base) := rfl
theorem EncodedLength.decZeroPage (b1 : Byte) : EncodedLength.Statement (.decZeroPage b1) := rfl
theorem EncodedLength.decZeroPageX (b1 : Byte) : EncodedLength.Statement (.decZeroPageX b1) := rfl
theorem EncodedLength.decAbsolute (addr : Addr) : EncodedLength.Statement (.decAbsolute addr) := rfl
theorem EncodedLength.decAbsoluteX (base : Addr) : EncodedLength.Statement (.decAbsoluteX base) := rfl
theorem EncodedLength.inx : EncodedLength.Statement (.inx) := rfl
theorem EncodedLength.iny : EncodedLength.Statement (.iny) := rfl
theorem EncodedLength.dex : EncodedLength.Statement (.dex) := rfl
theorem EncodedLength.dey : EncodedLength.Statement (.dey) := rfl
theorem EncodedLength.cmpImmediate (b1 : Byte) : EncodedLength.Statement (.cmpImmediate b1) := rfl
theorem EncodedLength.cmpZeroPage (b1 : Byte) : EncodedLength.Statement (.cmpZeroPage b1) := rfl
theorem EncodedLength.cmpZeroPageX (b1 : Byte) : EncodedLength.Statement (.cmpZeroPageX b1) := rfl
theorem EncodedLength.cmpAbsolute (addr : Addr) : EncodedLength.Statement (.cmpAbsolute addr) := rfl
theorem EncodedLength.cmpAbsoluteX (base : Addr) : EncodedLength.Statement (.cmpAbsoluteX base) := rfl
theorem EncodedLength.cmpAbsoluteY (base : Addr) : EncodedLength.Statement (.cmpAbsoluteY base) := rfl
theorem EncodedLength.cmpIndexedIndirect (b1 : Byte) : EncodedLength.Statement (.cmpIndexedIndirect b1) := rfl
theorem EncodedLength.cmpIndirectIndexed (b1 : Byte) : EncodedLength.Statement (.cmpIndirectIndexed b1) := rfl
theorem EncodedLength.cpxImmediate (b1 : Byte) : EncodedLength.Statement (.cpxImmediate b1) := rfl
theorem EncodedLength.cpxZeroPage (b1 : Byte) : EncodedLength.Statement (.cpxZeroPage b1) := rfl
theorem EncodedLength.cpxAbsolute (addr : Addr) : EncodedLength.Statement (.cpxAbsolute addr) := rfl
theorem EncodedLength.cpyImmediate (b1 : Byte) : EncodedLength.Statement (.cpyImmediate b1) := rfl
theorem EncodedLength.cpyZeroPage (b1 : Byte) : EncodedLength.Statement (.cpyZeroPage b1) := rfl
theorem EncodedLength.cpyAbsolute (addr : Addr) : EncodedLength.Statement (.cpyAbsolute addr) := rfl
theorem EncodedLength.bitZeroPage (b1 : Byte) : EncodedLength.Statement (.bitZeroPage b1) := rfl
theorem EncodedLength.bitAbsolute (addr : Addr) : EncodedLength.Statement (.bitAbsolute addr) := rfl
theorem EncodedLength.clc : EncodedLength.Statement (.clc) := rfl
theorem EncodedLength.sec : EncodedLength.Statement (.sec) := rfl
theorem EncodedLength.cli : EncodedLength.Statement (.cli) := rfl
theorem EncodedLength.sei : EncodedLength.Statement (.sei) := rfl
theorem EncodedLength.cld : EncodedLength.Statement (.cld) := rfl
theorem EncodedLength.sed : EncodedLength.Statement (.sed) := rfl
theorem EncodedLength.clv : EncodedLength.Statement (.clv) := rfl
theorem EncodedLength.bpl (offset : Int) : EncodedLength.Statement (.bpl offset) := rfl
theorem EncodedLength.bmi (offset : Int) : EncodedLength.Statement (.bmi offset) := rfl
theorem EncodedLength.bvc (offset : Int) : EncodedLength.Statement (.bvc offset) := rfl
theorem EncodedLength.bvs (offset : Int) : EncodedLength.Statement (.bvs offset) := rfl
theorem EncodedLength.bcc (offset : Int) : EncodedLength.Statement (.bcc offset) := rfl
theorem EncodedLength.bcs (offset : Int) : EncodedLength.Statement (.bcs offset) := rfl
theorem EncodedLength.bne (offset : Int) : EncodedLength.Statement (.bne offset) := rfl
theorem EncodedLength.beq (offset : Int) : EncodedLength.Statement (.beq offset) := rfl
theorem EncodedLength.jmpAbsolute (target : Addr) : EncodedLength.Statement (.jmpAbsolute target) := rfl
theorem EncodedLength.jmpIndirect (pointer : Addr) : EncodedLength.Statement (.jmpIndirect pointer) := rfl
theorem EncodedLength.jsr (target : Addr) : EncodedLength.Statement (.jsr target) := rfl
theorem EncodedLength.rts : EncodedLength.Statement (.rts) := rfl
theorem EncodedLength.pha : EncodedLength.Statement (.pha) := rfl
theorem EncodedLength.pla : EncodedLength.Statement (.pla) := rfl
theorem EncodedLength.php : EncodedLength.Statement (.php) := rfl
theorem EncodedLength.plp : EncodedLength.Statement (.plp) := rfl
theorem EncodedLength.brk : EncodedLength.Statement (.brk) := rfl
theorem EncodedLength.rti : EncodedLength.Statement (.rti) := rfl
theorem EncodedLength.nop : EncodedLength.Statement (.nop) := rfl

end Sys2Proof.Laws
end

