-- ==== Sys2Proof/Tests/Slice0.lean ====
section
/-! SUPPORT. The model's own tests, and for every obligation with hypotheses a concrete case that meets them. Every
expected result is the spec's: the "Encoding" lines of the rules, and the vectors of 95_test_vectors.md, whose section
and row the comment above each test names. -/

namespace Sys2Proof.Tests

-- One theorem at a time: many kernel evaluations at once need more memory than the checker gives.
set_option Elab.async false

open Sys2Proof.Machine Sys2Proof.Statements

/-! ## Well-formed instructions -/

theorem test_offset_above_range_refused :
    [Instr.bpl 128, .bmi 128, .bvc 128, .bvs 128, .bcc 128, .bcs 128, .bne 128, .beq 128].all
      (fun i => !i.wellFormed) = true := by decide

theorem test_offset_below_range_refused :
    [Instr.bpl (-129), .bmi (-129), .bvc (-129), .bvs (-129), .bcc (-129), .bcs (-129), .bne (-129), .beq (-129)].all
      (fun i => !i.wellFormed) = true := by decide

theorem test_offsets_at_range_ends_accepted :
    [Instr.bne 127, .bne (-128), .ldaImmediate 0xFF, .jmpIndirect 0xFFFF, .nop].all Instr.wellFormed = true := by decide

/-! ## Decoding -/

/-- Each opcode byte, with 81 and 02 after it, decodes to its instruction: the byte operand 81, the signed offset -127,
or the word 0281. -/
def decodesTo (l : List (Byte × Instr)) : Bool := l.all fun r => decide (decode r.1 0x81 0x02 = .ok r.2)

/-- The opcode bytes of the "Encoding" lines of 41_load_transfer.md. -/
theorem test_decode_load_transfer : decodesTo
    [ (0xA9, .ldaImmediate 0x81), (0xA5, .ldaZeroPage 0x81), (0xB5, .ldaZeroPageX 0x81),
      (0xAD, .ldaAbsolute 0x0281), (0xBD, .ldaAbsoluteX 0x0281), (0xB9, .ldaAbsoluteY 0x0281),
      (0xA1, .ldaIndexedIndirect 0x81), (0xB1, .ldaIndirectIndexed 0x81), (0xA2, .ldxImmediate 0x81),
      (0xA6, .ldxZeroPage 0x81), (0xB6, .ldxZeroPageY 0x81), (0xAE, .ldxAbsolute 0x0281),
      (0xBE, .ldxAbsoluteY 0x0281), (0xA0, .ldyImmediate 0x81), (0xA4, .ldyZeroPage 0x81),
      (0xB4, .ldyZeroPageX 0x81), (0xAC, .ldyAbsolute 0x0281), (0xBC, .ldyAbsoluteX 0x0281), (0xAA, .tax),
      (0xA8, .tay), (0x8A, .txa), (0x98, .tya), (0xBA, .tsx), (0x9A, .txs) ] = true := by
  decide +kernel

/-- The opcode bytes of the "Encoding" lines of 42_store.md. -/
theorem test_decode_store : decodesTo
    [ (0x85, .staZeroPage 0x81), (0x95, .staZeroPageX 0x81), (0x8D, .staAbsolute 0x0281),
      (0x9D, .staAbsoluteX 0x0281), (0x99, .staAbsoluteY 0x0281), (0x81, .staIndexedIndirect 0x81),
      (0x91, .staIndirectIndexed 0x81), (0x86, .stxZeroPage 0x81), (0x96, .stxZeroPageY 0x81),
      (0x8E, .stxAbsolute 0x0281), (0x84, .styZeroPage 0x81), (0x94, .styZeroPageX 0x81),
      (0x8C, .styAbsolute 0x0281) ] = true := by
  decide +kernel

/-- The opcode bytes of the "Encoding" lines of 43_arithmetic_logic.md. -/
theorem test_decode_arithmetic_logic : decodesTo
    [ (0x69, .adcImmediate 0x81), (0x65, .adcZeroPage 0x81), (0x75, .adcZeroPageX 0x81),
      (0x6D, .adcAbsolute 0x0281), (0x7D, .adcAbsoluteX 0x0281), (0x79, .adcAbsoluteY 0x0281),
      (0x61, .adcIndexedIndirect 0x81), (0x71, .adcIndirectIndexed 0x81), (0xE9, .sbcImmediate 0x81),
      (0xE5, .sbcZeroPage 0x81), (0xF5, .sbcZeroPageX 0x81), (0xED, .sbcAbsolute 0x0281),
      (0xFD, .sbcAbsoluteX 0x0281), (0xF9, .sbcAbsoluteY 0x0281), (0xE1, .sbcIndexedIndirect 0x81),
      (0xF1, .sbcIndirectIndexed 0x81), (0x29, .andImmediate 0x81), (0x25, .andZeroPage 0x81),
      (0x35, .andZeroPageX 0x81), (0x2D, .andAbsolute 0x0281), (0x3D, .andAbsoluteX 0x0281),
      (0x39, .andAbsoluteY 0x0281), (0x21, .andIndexedIndirect 0x81), (0x31, .andIndirectIndexed 0x81),
      (0x09, .oraImmediate 0x81), (0x05, .oraZeroPage 0x81), (0x15, .oraZeroPageX 0x81),
      (0x0D, .oraAbsolute 0x0281), (0x1D, .oraAbsoluteX 0x0281), (0x19, .oraAbsoluteY 0x0281),
      (0x01, .oraIndexedIndirect 0x81), (0x11, .oraIndirectIndexed 0x81), (0x49, .eorImmediate 0x81),
      (0x45, .eorZeroPage 0x81), (0x55, .eorZeroPageX 0x81), (0x4D, .eorAbsolute 0x0281),
      (0x5D, .eorAbsoluteX 0x0281), (0x59, .eorAbsoluteY 0x0281), (0x41, .eorIndexedIndirect 0x81),
      (0x51, .eorIndirectIndexed 0x81) ] = true := by
  decide +kernel

/-- The opcode bytes of the "Encoding" lines of 44_shift_rotate.md. -/
theorem test_decode_shift_rotate : decodesTo
    [ (0x0A, .aslAccumulator), (0x06, .aslZeroPage 0x81), (0x16, .aslZeroPageX 0x81),
      (0x0E, .aslAbsolute 0x0281), (0x1E, .aslAbsoluteX 0x0281), (0x4A, .lsrAccumulator),
      (0x46, .lsrZeroPage 0x81), (0x56, .lsrZeroPageX 0x81), (0x4E, .lsrAbsolute 0x0281),
      (0x5E, .lsrAbsoluteX 0x0281), (0x2A, .rolAccumulator), (0x26, .rolZeroPage 0x81),
      (0x36, .rolZeroPageX 0x81), (0x2E, .rolAbsolute 0x0281), (0x3E, .rolAbsoluteX 0x0281),
      (0x6A, .rorAccumulator), (0x66, .rorZeroPage 0x81), (0x76, .rorZeroPageX 0x81),
      (0x6E, .rorAbsolute 0x0281), (0x7E, .rorAbsoluteX 0x0281) ] = true := by
  decide +kernel

/-- The opcode bytes of the "Encoding" lines of 45_increment_decrement.md. -/
theorem test_decode_increment_decrement : decodesTo
    [ (0xE6, .incZeroPage 0x81), (0xF6, .incZeroPageX 0x81), (0xEE, .incAbsolute 0x0281),
      (0xFE, .incAbsoluteX 0x0281), (0xC6, .decZeroPage 0x81), (0xD6, .decZeroPageX 0x81),
      (0xCE, .decAbsolute 0x0281), (0xDE, .decAbsoluteX 0x0281), (0xE8, .inx), (0xC8, .iny), (0xCA, .dex),
      (0x88, .dey) ] = true := by
  decide +kernel

/-- The opcode bytes of the "Encoding" lines of 46_compare_bit.md. -/
theorem test_decode_compare_bit : decodesTo
    [ (0xC9, .cmpImmediate 0x81), (0xC5, .cmpZeroPage 0x81), (0xD5, .cmpZeroPageX 0x81),
      (0xCD, .cmpAbsolute 0x0281), (0xDD, .cmpAbsoluteX 0x0281), (0xD9, .cmpAbsoluteY 0x0281),
      (0xC1, .cmpIndexedIndirect 0x81), (0xD1, .cmpIndirectIndexed 0x81), (0xE0, .cpxImmediate 0x81),
      (0xE4, .cpxZeroPage 0x81), (0xEC, .cpxAbsolute 0x0281), (0xC0, .cpyImmediate 0x81),
      (0xC4, .cpyZeroPage 0x81), (0xCC, .cpyAbsolute 0x0281), (0x24, .bitZeroPage 0x81),
      (0x2C, .bitAbsolute 0x0281) ] = true := by
  decide +kernel

/-- The opcode bytes of the "Encoding" lines of 47_flag.md. -/
theorem test_decode_flag : decodesTo
    [ (0x18, .clc), (0x38, .sec), (0x58, .cli), (0x78, .sei), (0xD8, .cld), (0xF8, .sed), (0xB8, .clv) ] = true := by
  decide +kernel

/-- The opcode bytes of the "Encoding" lines of 48_branch.md. -/
theorem test_decode_branch : decodesTo
    [ (0x10, .bpl (-127)), (0x30, .bmi (-127)), (0x50, .bvc (-127)), (0x70, .bvs (-127)), (0x90, .bcc (-127)),
      (0xB0, .bcs (-127)), (0xD0, .bne (-127)), (0xF0, .beq (-127)) ] = true := by
  decide +kernel

/-- The opcode bytes of the "Encoding" lines of 49_jump_stack_system.md. -/
theorem test_decode_jump_stack_system : decodesTo
    [ (0x4C, .jmpAbsolute 0x0281), (0x6C, .jmpIndirect 0x0281), (0x20, .jsr 0x0281), (0x60, .rts),
      (0x48, .pha), (0x68, .pla), (0x08, .php), (0x28, .plp), (0x00, .brk), (0x40, .rti), (0xEA, .nop) ] = true := by
  decide +kernel

/-- No two rows of the opcode map share a byte (R87), and there are 151 of them. -/
theorem test_opcode_map_is_unambiguous :
    (opcodeMap.map Prod.fst).Nodup ∧ opcodeMap.length = 151 := by decide +kernel

/-- Illegal bytes are rejected by name (R88). -/
theorem test_illegal_bytes_rejected :
    [0x02, 0x1A, 0x80, 0x89, 0xEB, 0xFF].all
      (fun op => decide (decode op 0x00 0x00 = .error (.illegalOpcode op))) = true := by decide +kernel

/-- The table's numbering of bits: the first byte is bits 7..0. -/
theorem test_table_word_is_little_endian :
    decodeTableWord 24 0xF0018D = some (.staAbsolute 0xF001) ∧ decodeTableWord 8 0x02 = none := by decide +kernel

/-! ## One step: the vectors of 95_test_vectors.md -/

/-- Every flag clear. -/
def noFlags : Flags := { n := false, v := false, d := false, i := false, z := false, c := false }

/-- The blank state of a vector: code at `pc`, data bytes, Running, everything else 0. -/
def blank (pc : Addr) (code : List Byte) (data : List (Addr × Byte)) : State :=
  data.foldl (fun s d => s.write d.1 d.2)
    (({ State.reset with sp := 0x00, pc := pc, p := noFlags, run := .running }).placeBytes pc code)

/-- The state after one step. -/
def after (s : State) : Option State :=
  match step s with
  | .next t => some t
  | .fault _ => none
  | .refused _ => none

-- Section 2.1: `A1 FE` at 0200, LDA ($FE,X).
theorem test_lda_indexed_indirect_pointer_wraps :
    (after { blank 0x0200 [0xA1, 0xFE] [(0x00FF, 0x34), (0x0000, 0x12), (0x1234, 0x99)] with x := 0x01 }).map (fun t => (t.a, t.pc, t.p.n, t.p.z))
      = some (0x99, 0x0202, true, false) := by decide +kernel

-- Section 2.1: `B1 40` at 0200, LDA ($40),Y.
theorem test_lda_indirect_indexed_wraps :
    (after { blank 0x0200 [0xB1, 0x40] [(0x0040, 0xF0), (0x0041, 0xFF), (0x0010, 0x01)] with y := 0x20 }).map (fun t => (t.a, t.pc, t.p.n, t.p.z))
      = some (0x01, 0x0202, false, false) := by decide +kernel

-- Section 2.1: `B6 FF` at 0200, LDX $FF,Y.
theorem test_ldx_zero_page_y_wraps :
    (after { blank 0x0200 [0xB6, 0xFF] [(0x0000, 0x7E)] with y := 0x01 }).map (fun t => (t.x, t.pc, t.p.n, t.p.z))
      = some (0x7E, 0x0202, false, false) := by decide +kernel

-- Section 2.1: `BC FF 02` at 0200, LDY $02FF,X.
theorem test_ldy_absolute_x :
    (after { blank 0x0200 [0xBC, 0xFF, 0x02] [(0x0300, 0x00)] with x := 0x01 }).map (fun t => (t.pc, t.p.n, t.p.z))
      = some (0x0203, false, true) := by decide +kernel

-- Section 2.1: `AA` at 0200, TAX.
theorem test_tax :
    (after { blank 0x0200 [0xAA] [] with a := 0x80 }).map (fun t => (t.x, t.pc, t.p.n, t.p.z))
      = some (0x80, 0x0201, true, false) := by decide +kernel

-- Section 2.1: `A8` at 0200, TAY.
theorem test_tay :
    (after { blank 0x0200 [0xA8] [] with a := 0x00 }).map (fun t => (t.pc, t.p.n, t.p.z))
      = some (0x0201, false, true) := by decide +kernel

-- Section 2.1: `8A` at 0200, TXA.
theorem test_txa :
    (after { blank 0x0200 [0x8A] [] with x := 0x00, p := { noFlags with n := true } }).map (fun t => (t.pc, t.p.n, t.p.z))
      = some (0x0201, false, true) := by decide +kernel

-- Section 2.1: `98` at 0200, TYA.
theorem test_tya :
    (after { blank 0x0200 [0x98] [] with y := 0xC3 }).map (fun t => (t.a, t.pc, t.p.n, t.p.z))
      = some (0xC3, 0x0201, true, false) := by decide +kernel

-- Section 2.1: `BA` at 0200, TSX.
theorem test_tsx :
    (after { blank 0x0200 [0xBA] [] with sp := 0x00 }).map (fun t => (t.pc, t.p.n, t.p.z))
      = some (0x0201, false, true) := by decide +kernel

-- Section 2.1: `9A` at 0200, TXS.
theorem test_txs :
    (after { blank 0x0200 [0x9A] [] with x := 0x00 }).map (fun t => (t.sp, t.pc, t.p.n, t.p.z))
      = some (0x00, 0x0201, false, false) := by decide +kernel

-- Section 2.2: `8D 01 F0` at 0200, STA $F001.
theorem test_sta_fires_print_port :
    (after { blank 0x0200 [0x8D, 0x01, 0xF0] [] with a := 0x48, config := { Config.unconfigured with printPort := some 0xF001 } }).map (fun t => (t.pc, t.read 0xF001, t.out))
      = some (0x0203, 0x48, [0x48]) := by decide +kernel

-- Section 2.2: `91 FF` at 0200, STA ($FF),Y.
theorem test_sta_indirect_indexed :
    (after { blank 0x0200 [0x91, 0xFF] [(0x00FF, 0xF0), (0x0000, 0xFF)] with a := 0xAB, y := 0x20 }).map (fun t => (t.pc, t.read 0x0010))
      = some (0x0202, 0xAB) := by decide +kernel

-- Section 2.2: `96 FF` at 0200, STX $FF,Y.
theorem test_stx_zero_page_y_wraps :
    (after { blank 0x0200 [0x96, 0xFF] [] with x := 0x05, y := 0x02 }).map (fun t => (t.pc, t.read 0x0001))
      = some (0x0202, 0x05) := by decide +kernel

-- Section 2.2: `94 FF` at 0200, STY $FF,X.
theorem test_sty_zero_page_x_wraps :
    (after { blank 0x0200 [0x94, 0xFF] [] with y := 0x7F, x := 0x01 }).map (fun t => (t.pc, t.read 0x0000))
      = some (0x0202, 0x7F) := by decide +kernel

-- Section 2.3: `69 00` at 0200, ADC #$00.
theorem test_adc_counts_carry_in_overflow :
    (after { blank 0x0200 [0x69, 0x00] [] with a := 0x7F, p := { noFlags with c := true } }).map (fun t => ((t.a, t.pc, t.p.n), t.p.v, t.p.z, t.p.c))
      = some ((0x80, 0x0202, true), true, false, false) := by decide +kernel

-- Section 2.3: `69 FF` at 0200, ADC #$FF.
theorem test_adc_negative_overflow :
    (after { blank 0x0200 [0x69, 0xFF] [] with a := 0x80, p := { noFlags with c := false } }).map (fun t => ((t.a, t.pc, t.p.n), t.p.v, t.p.z, t.p.c))
      = some ((0x7F, 0x0202, false), true, false, true) := by decide +kernel

-- Section 2.3: `E9 05` at 0200, SBC #$05.
theorem test_sbc_borrows :
    (after { blank 0x0200 [0xE9, 0x05] [] with a := 0x03, p := { noFlags with c := true } }).map (fun t => ((t.a, t.pc, t.p.n), t.p.v, t.p.z, t.p.c))
      = some ((0xFE, 0x0202, true), false, false, false) := by decide +kernel

-- Section 2.3: `E9 FF` at 0200, SBC #$FF.
theorem test_sbc_overflow :
    (after { blank 0x0200 [0xE9, 0xFF] [] with a := 0x7F, p := { noFlags with c := true } }).map (fun t => ((t.a, t.pc, t.p.n), t.p.v, t.p.z, t.p.c))
      = some ((0x80, 0x0202, true), true, false, false) := by decide +kernel

-- Section 2.3: `29 3C` at 0200, AND #$3C.
theorem test_and :
    (after { blank 0x0200 [0x29, 0x3C] [] with a := 0xF0 }).map (fun t => ((t.a, t.pc, t.p.n), t.p.v, t.p.z, t.p.c))
      = some ((0x30, 0x0202, false), false, false, false) := by decide +kernel

-- Section 2.3: `09 80` at 0200, ORA #$80.
theorem test_ora :
    (after { blank 0x0200 [0x09, 0x80] [] with a := 0x01 }).map (fun t => ((t.a, t.pc, t.p.n), t.p.v, t.p.z, t.p.c))
      = some ((0x81, 0x0202, true), false, false, false) := by decide +kernel

-- Section 2.3: `49 0F` at 0200, EOR #$0F.
theorem test_eor :
    (after { blank 0x0200 [0x49, 0x0F] [] with a := 0xFF }).map (fun t => ((t.a, t.pc, t.p.n), t.p.v, t.p.z, t.p.c))
      = some ((0xF0, 0x0202, true), false, false, false) := by decide +kernel

-- Section 2.4: `0A` at 0200, ASL A.
theorem test_asl_accumulator :
    (after { blank 0x0200 [0x0A] [] with a := 0x80 }).map (fun t => (t.a, t.pc, t.p.n, t.p.z, t.p.c))
      = some (0x00, 0x0201, false, true, true) := by decide +kernel

-- Section 2.4: `06 10` at 0200, ASL $10.
theorem test_asl_zero_page :
    (after (blank 0x0200 [0x06, 0x10] [(0x0010, 0xFF)])).map (fun t => (t.pc, t.p.n, t.p.z, t.p.c, t.read 0x0010))
      = some (0x0202, true, false, true, 0xFE) := by decide +kernel

-- Section 2.4: `4A` at 0200, LSR A.
theorem test_lsr_accumulator :
    (after { blank 0x0200 [0x4A] [] with a := 0xFF, p := { noFlags with n := true } }).map (fun t => (t.a, t.pc, t.p.n, t.p.z, t.p.c))
      = some (0x7F, 0x0201, false, false, true) := by decide +kernel

-- Section 2.4: `46 10` at 0200, LSR $10.
theorem test_lsr_zero_page :
    (after (blank 0x0200 [0x46, 0x10] [(0x0010, 0x02)])).map (fun t => (t.pc, t.p.n, t.p.z, t.p.c, t.read 0x0010))
      = some (0x0202, false, false, false, 0x01) := by decide +kernel

-- Section 2.4: `2A` at 0200, ROL A.
theorem test_rol_accumulator :
    (after { blank 0x0200 [0x2A] [] with a := 0x40, p := { noFlags with c := true } }).map (fun t => (t.a, t.pc, t.p.n, t.p.z, t.p.c))
      = some (0x81, 0x0201, true, false, false) := by decide +kernel

-- Section 2.4: `2E 00 03` at 0200, ROL $0300.
theorem test_rol_absolute :
    (after { blank 0x0200 [0x2E, 0x00, 0x03] [(0x0300, 0x55)] with p := { noFlags with c := true } }).map (fun t => (t.pc, t.p.n, t.p.z, t.p.c, t.read 0x0300))
      = some (0x0203, true, false, false, 0xAB) := by decide +kernel

-- Section 2.4: `6A` at 0200, ROR A.
theorem test_ror_accumulator :
    (after { blank 0x0200 [0x6A] [] with a := 0x00, p := { noFlags with c := true } }).map (fun t => (t.a, t.pc, t.p.n, t.p.z, t.p.c))
      = some (0x80, 0x0201, true, false, false) := by decide +kernel

-- Section 2.4: `7E FF 02` at 0200, ROR $02FF,X.
theorem test_ror_absolute_x :
    (after { blank 0x0200 [0x7E, 0xFF, 0x02] [(0x0300, 0x81)] with x := 0x01, p := { noFlags with c := false } }).map (fun t => (t.pc, t.p.n, t.p.z, t.p.c, t.read 0x0300))
      = some (0x0203, false, false, true, 0x40) := by decide +kernel

-- Section 2.5: `E6 10` at 0200, INC $10.
theorem test_inc_wraps :
    (after (blank 0x0200 [0xE6, 0x10] [(0x0010, 0xFF)])).map (fun t => (t.pc, t.p.n, t.p.z, t.read 0x0010))
      = some (0x0202, false, true, 0x00) := by decide +kernel

-- Section 2.5: `F6 FF` at 0200, INC $FF,X.
theorem test_inc_zero_page_x_wraps :
    (after { blank 0x0200 [0xF6, 0xFF] [(0x0001, 0x10)] with x := 0x02 }).map (fun t => (t.pc, t.p.n, t.p.z, t.read 0x0001))
      = some (0x0202, false, false, 0x11) := by decide +kernel

-- Section 2.5: `C6 10` at 0200, DEC $10.
theorem test_dec_to_zero :
    (after (blank 0x0200 [0xC6, 0x10] [(0x0010, 0x01)])).map (fun t => (t.pc, t.p.n, t.p.z, t.read 0x0010))
      = some (0x0202, false, true, 0x00) := by decide +kernel

-- Section 2.5: `CE 00 03` at 0200, DEC $0300.
theorem test_dec_wraps :
    (after (blank 0x0200 [0xCE, 0x00, 0x03] [(0x0300, 0x00)])).map (fun t => (t.pc, t.p.n, t.p.z, t.read 0x0300))
      = some (0x0203, true, false, 0xFF) := by decide +kernel

-- Section 2.5: `E8` at 0200, INX.
theorem test_inx_wraps :
    (after { blank 0x0200 [0xE8] [] with x := 0xFF }).map (fun t => (t.x, t.pc, t.p.n, t.p.z))
      = some (0x00, 0x0201, false, true) := by decide +kernel

-- Section 2.5: `C8` at 0200, INY.
theorem test_iny :
    (after { blank 0x0200 [0xC8] [] with y := 0x7F }).map (fun t => (t.y, t.pc, t.p.n, t.p.z))
      = some (0x80, 0x0201, true, false) := by decide +kernel

-- Section 2.5: `CA` at 0200, DEX.
theorem test_dex_wraps :
    (after { blank 0x0200 [0xCA] [] with x := 0x00 }).map (fun t => (t.x, t.pc, t.p.n, t.p.z))
      = some (0xFF, 0x0201, true, false) := by decide +kernel

-- Section 2.5: `88` at 0200, DEY.
theorem test_dey_wraps :
    (after { blank 0x0200 [0x88] [] with y := 0x00 }).map (fun t => (t.y, t.pc, t.p.n, t.p.z))
      = some (0xFF, 0x0201, true, false) := by decide +kernel

-- Section 2.6: `C9 FF` at 0200, CMP #$FF.
theorem test_cmp_below :
    (after { blank 0x0200 [0xC9, 0xFF] [] with a := 0x01 }).map (fun t => (t.pc, t.p.n, t.p.v, t.p.z, t.p.c))
      = some (0x0202, false, false, false, false) := by decide +kernel

-- Section 2.6: `C9 10` at 0200, CMP #$10.
theorem test_cmp_leaves_overflow :
    (after { blank 0x0200 [0xC9, 0x10] [] with a := 0x10, p := { noFlags with c := false, v := true } }).map (fun t => (t.pc, t.p.n, t.p.v, t.p.z, t.p.c))
      = some (0x0202, false, true, true, true) := by decide +kernel

-- Section 2.6: `E0 01` at 0200, CPX #$01.
theorem test_cpx_below :
    (after { blank 0x0200 [0xE0, 0x01] [] with x := 0x00 }).map (fun t => (t.pc, t.p.n, t.p.v, t.p.z, t.p.c))
      = some (0x0202, true, false, false, false) := by decide +kernel

-- Section 2.6: `C0 00` at 0200, CPY #$00.
theorem test_cpy_negative :
    (after { blank 0x0200 [0xC0, 0x00] [] with y := 0x80 }).map (fun t => (t.pc, t.p.n, t.p.v, t.p.z, t.p.c))
      = some (0x0202, true, false, false, true) := by decide +kernel

-- Section 2.6: `C4 10` at 0200, CPY $10.
theorem test_cpy_equal :
    (after { blank 0x0200 [0xC4, 0x10] [(0x0010, 0x02)] with y := 0x02 }).map (fun t => (t.pc, t.p.n, t.p.v, t.p.z, t.p.c))
      = some (0x0202, false, false, true, true) := by decide +kernel

-- Section 2.6: `24 10` at 0200, BIT $10.
theorem test_bit_zero_page :
    (after { blank 0x0200 [0x24, 0x10] [(0x0010, 0xC0)] with a := 0x3F }).map (fun t => (t.pc, t.p.n, t.p.v, t.p.z, t.p.c))
      = some (0x0202, true, true, true, false) := by decide +kernel

-- Section 2.6: `2C 00 03` at 0200, BIT $0300.
theorem test_bit_absolute :
    (after { blank 0x0200 [0x2C, 0x00, 0x03] [(0x0300, 0x01)] with a := 0xFF, p := { noFlags with n := true, v := true, z := true } }).map (fun t => (t.pc, t.p.n, t.p.v, t.p.z, t.p.c))
      = some (0x0203, false, false, false, false) := by decide +kernel

-- Section 2.7: `18` at 0200, CLC.
theorem test_clc :
    (after { blank 0x0200 [0x18] [] with p := { noFlags with c := true } }).map (fun t => (t.pc, t.p.c))
      = some (0x0201, false) := by decide +kernel

-- Section 2.7: `38` at 0200, SEC.
theorem test_sec :
    (after { blank 0x0200 [0x38] [] with p := { noFlags with c := false } }).map (fun t => (t.pc, t.p.c))
      = some (0x0201, true) := by decide +kernel

-- Section 2.7: `58` at 0200, CLI.
theorem test_cli :
    (after { blank 0x0200 [0x58] [] with p := { noFlags with i := true } }).map (fun t => (t.pc, t.p.i))
      = some (0x0201, false) := by decide +kernel

-- Section 2.7: `78` at 0200, SEI.
theorem test_sei :
    (after { blank 0x0200 [0x78] [] with p := { noFlags with i := false } }).map (fun t => (t.pc, t.p.i))
      = some (0x0201, true) := by decide +kernel

-- Section 2.7: `D8` at 0200, CLD.
theorem test_cld :
    (after { blank 0x0200 [0xD8] [] with p := { noFlags with d := true } }).map (fun t => (t.pc, t.p.d))
      = some (0x0201, false) := by decide +kernel

-- Section 2.7: `F8` at 0200, SED.
theorem test_sed :
    (after { blank 0x0200 [0xF8] [] with p := { noFlags with d := false } }).map (fun t => (t.pc, t.p.d))
      = some (0x0201, true) := by decide +kernel

-- Section 2.7: `B8` at 0200, CLV.
theorem test_clv :
    (after { blank 0x0200 [0xB8] [] with p := { noFlags with v := true } }).map (fun t => (t.pc, t.p.v))
      = some (0x0201, false) := by decide +kernel

-- Section 2.8: `10 05` at 0200, BPL $0207.
theorem test_bpl_taken :
    (after { blank 0x0200 [0x10, 0x05] [] with p := { noFlags with n := false } }).map (fun t => t.pc)
      = some 0x0207 := by decide +kernel

-- Section 2.8: `30 05` at 0200, BMI $0207.
theorem test_bmi_not_taken :
    (after { blank 0x0200 [0x30, 0x05] [] with p := { noFlags with n := false } }).map (fun t => t.pc)
      = some 0x0202 := by decide +kernel

-- Section 2.8: `50 FE` at 0300, BVC $0300.
theorem test_bvc_to_itself :
    (after { blank 0x0300 [0x50, 0xFE] [] with p := { noFlags with v := false } }).map (fun t => t.pc)
      = some 0x0300 := by decide +kernel

-- Section 2.8: `70 80` at 0200, BVS $0182.
theorem test_bvs_lowest_offset :
    (after { blank 0x0200 [0x70, 0x80] [] with p := { noFlags with v := true } }).map (fun t => t.pc)
      = some 0x0182 := by decide +kernel

-- Section 2.8: `90 7F` at 0200, BCC $0281.
theorem test_bcc_highest_offset :
    (after { blank 0x0200 [0x90, 0x7F] [] with p := { noFlags with c := false } }).map (fun t => t.pc)
      = some 0x0281 := by decide +kernel

-- Section 2.8: `B0 7F` at FFF0, BCS $0071.
theorem test_bcs_wraps_up :
    (after { blank 0xFFF0 [0xB0, 0x7F] [] with p := { noFlags with c := true } }).map (fun t => t.pc)
      = some 0x0071 := by decide +kernel

-- Section 2.8: `D0 80` at 0010, BNE $FF92.
theorem test_bne_wraps_down :
    (after { blank 0x0010 [0xD0, 0x80] [] with p := { noFlags with z := false } }).map (fun t => t.pc)
      = some 0xFF92 := by decide +kernel

-- Section 2.8: `F0 00` at 0200, BEQ $0202.
theorem test_beq_taken_to_next :
    (after { blank 0x0200 [0xF0, 0x00] [] with p := { noFlags with z := true } }).map (fun t => t.pc)
      = some 0x0202 := by decide +kernel

-- Section 2.8: `F0 05` at 0200, BEQ $0207.
theorem test_beq_not_taken :
    (after { blank 0x0200 [0xF0, 0x05] [] with p := { noFlags with z := false } }).map (fun t => t.pc)
      = some 0x0202 := by decide +kernel

-- Section 2.9: `6C FF 02` at 0400, JMP ($02FF).
theorem test_jmp_indirect_page_wrap :
    (after (blank 0x0400 [0x6C, 0xFF, 0x02] [(0x02FF, 0x34), (0x0200, 0x12), (0x0300, 0x56)])).map (fun t => t.pc)
      = some 0x1234 := by decide +kernel

-- Section 2.9: `6C FF FF` at 0400, JMP ($FFFF).
theorem test_jmp_indirect_at_top :
    (after (blank 0x0400 [0x6C, 0xFF, 0xFF] [(0xFFFF, 0x00), (0xFF00, 0x05), (0x0000, 0x07)])).map (fun t => t.pc)
      = some 0x0500 := by decide +kernel

-- Section 2.9: `20 00 04` at 0300, JSR $0400.
theorem test_jsr :
    (after { blank 0x0300 [0x20, 0x00, 0x04] [] with sp := 0xFF }).map (fun t => (t.sp, t.pc, t.read 0x01FE, t.read 0x01FF))
      = some (0xFD, 0x0400, 0x02, 0x03) := by decide +kernel

-- Section 2.9: `20 00 04` at 0300, JSR $0400.
theorem test_jsr_wraps_stack :
    (after { blank 0x0300 [0x20, 0x00, 0x04] [] with sp := 0x00 }).map (fun t => (t.sp, t.pc, t.read 0x0100, t.read 0x01FF))
      = some (0xFE, 0x0400, 0x03, 0x02) := by decide +kernel

-- Section 2.9: `60` at 0200, RTS.
theorem test_rts :
    (after { blank 0x0200 [0x60] [(0x01FE, 0x02), (0x01FF, 0x03)] with sp := 0xFD }).map (fun t => (t.sp, t.pc))
      = some (0xFF, 0x0303) := by decide +kernel

-- Section 2.9: `60` at 0200, RTS.
theorem test_rts_wraps :
    (after { blank 0x0200 [0x60] [(0x01FE, 0xFF), (0x01FF, 0xFF)] with sp := 0xFD }).map (fun t => (t.sp, t.pc))
      = some (0xFF, 0x0000) := by decide +kernel

-- Section 2.9: `48` at 0200, PHA.
theorem test_pha_wraps_stack :
    (after { blank 0x0200 [0x48] [] with a := 0x42, sp := 0x00 }).map (fun t => (t.sp, t.pc, t.read 0x0100))
      = some (0xFF, 0x0201, 0x42) := by decide +kernel

-- Section 2.9: `68` at 0200, PLA.
theorem test_pla_wraps_stack :
    (after { blank 0x0200 [0x68] [(0x0100, 0x00)] with sp := 0xFF }).map (fun t => (t.sp, t.pc, t.p.z))
      = some (0x00, 0x0201, true) := by decide +kernel

-- Section 2.9: `08` at 0200, PHP.
theorem test_php :
    (after { blank 0x0200 [0x08] [] with sp := 0xFF, p := { noFlags with n := true, i := true, c := true } }).map (fun t => (t.sp, t.pc, t.read 0x01FF))
      = some (0xFE, 0x0201, 0xB5) := by decide +kernel

-- Section 2.9: `28` at 0200, PLP.
theorem test_plp_zero :
    (after { blank 0x0200 [0x28] [(0x01FF, 0x00)] with sp := 0xFE, p := { noFlags with n := true, z := true } }).map (fun t => (t.sp, t.pc, t.p.n, t.p.z))
      = some (0xFF, 0x0201, false, false) := by decide +kernel

-- Section 2.9: `28` at 0200, PLP.
theorem test_plp_ones :
    (after { blank 0x0200 [0x28] [(0x01FF, 0xFF)] with sp := 0xFE }).map (fun t => ((t.sp, t.pc, t.p.n, t.p.v), t.p.d, t.p.i, t.p.z, t.p.c))
      = some ((0xFF, 0x0201, true, true), true, true, true, true) := by decide +kernel

-- Section 3: `00` at 0300, BRK.
theorem test_brk_halts_before_cancel :
    (after { blank 0x0300 [0x00] [(0xFFFE, 0x00), (0xFFFF, 0x04)] with sp := 0xFF, haltReq := true }).map (fun t => ((t.sp, t.pc, t.p.i), t.read 0x01FD, t.read 0x01FE, t.read 0x01FF, t.run))
      = some ((0xFC, 0x0400, true), 0x30, 0x02, 0x03, .halted .brk) := by decide +kernel

-- Section 3: `00` at 0300, BRK.
theorem test_brk_continues_then_cancelled :
    (after { blank 0x0300 [0x00] [(0xFFFE, 0x00), (0xFFFF, 0x04)] with sp := 0xFF, haltReq := true, config := { Config.unconfigured with continueAfterBrk := true } }).map (fun t => ((t.sp, t.pc, t.p.i), t.read 0x01FD, t.read 0x01FE, t.read 0x01FF, t.run))
      = some ((0xFC, 0x0400, true), 0x30, 0x02, 0x03, .halted .cancelled) := by decide +kernel

-- Section 2.9: `40` at 0200, RTI.
theorem test_rti_clears :
    (after { blank 0x0200 [0x40] [(0x01FD, 0x30), (0x01FE, 0x02), (0x01FF, 0x03)] with sp := 0xFC, p := { noFlags with i := true } }).map (fun t => (t.sp, t.pc, t.p.i))
      = some (0xFF, 0x0302, false) := by decide +kernel

-- Section 2.9: `40` at 0200, RTI.
theorem test_rti_sets :
    (after { blank 0x0200 [0x40] [(0x01FD, 0xCF), (0x01FE, 0x00), (0x01FF, 0x80)] with sp := 0xFC }).map (fun t => ((t.sp, t.pc, t.p.n, t.p.v), t.p.d, t.p.i, t.p.z, t.p.c))
      = some ((0xFF, 0x8000, true, true), true, true, true, true) := by decide +kernel

-- Section 2.9: `EA` at 0200, NOP.
theorem test_nop :
    (after (blank 0x0200 [0xEA] [])).map (fun t => t.pc)
      = some 0x0201 := by decide +kernel

-- Section 3: `02` at 0300, illegal.
theorem test_illegal_opcode :
    (after { blank 0x0300 [0x02] [] with a := 0x11 }).map (fun t => (t.pc, t.run))
      = some (0x0300, .halted (.illegalOpcode 0x02 0x0300)) := by decide +kernel

-- Section 3: `D0 FE` at 0200, BNE $0200.
theorem test_bne_self_loop_cancelled :
    (after { blank 0x0200 [0xD0, 0xFE] [] with haltReq := true, p := { noFlags with z := false } }).map (fun t => (t.pc, t.run))
      = some (0x0200, .halted .cancelled) := by decide +kernel

/-- `withFetchWord` places an instruction where the step fetches it, and runs it as the first after reset. -/
theorem test_fetch_word_runs_after_reset :
    (after (State.reset.withFetchWord 16 0x80A9)).map (fun t => (t.a, t.pc, t.p.n)) = some (0x80, 0x0002, true) := by
  decide +kernel

/-! ## The host's commands: section 3 of 95_test_vectors.md -/

theorem test_start_reads_reset_vector :
    ((blank 0x0000 [] [(0xFFFC, 0x00), (0xFFFD, 0x02)]).start 0x0000 none).pc = 0x0200 := by decide +kernel

theorem test_load_overflow_writes_nothing :
    State.reset.load (List.replicate 100 0xEA) 0xFFA0 = (.loadOverflow, State.reset) := by decide +kernel

theorem test_load_fills_to_the_top :
    ((State.reset.load (List.replicate 96 0xEA) 0xFFA0).1, (State.reset.load (List.replicate 96 0xEA) 0xFFA0).2.read 0xFFFF,
      (State.reset.load (List.replicate 96 0xEA) 0xFFA0).2.read 0x0000) = (.ok, 0xEA, 0x00) := by decide +kernel

/-! ## Memory's canonical form -/

theorem test_writing_zero_takes_the_entry_out :
    ((State.reset.write 0x0300 0x07).write 0x0300 0x00).mem = [] := by decide

theorem test_entries_stay_in_address_order :
    ((State.reset.write 0x0300 0x07).write 0x0010 0x01).mem = [(0x0010, 0x01), (0x0300, 0x07)] := by decide

/-! ## Witnesses: for each obligation with hypotheses, a case that meets them -/

/-- A step of `s` goes to a next state that passes the check. -/
def leads (s : State) (check : State → Bool) : Bool :=
  match step s with
  | .next t => check t
  | .fault _ => false
  | .refused _ => false

theorem leads_next {s : State} {check : State → Bool} (h : leads s check = true) :
    ∃ t, step s = .next t ∧ check t = true := by
  unfold leads at h
  split at h
  · next t ht => exact ⟨t, ht, h⟩
  · cases h
  · cases h

theorem witness_loads :
    (Instr.ldaIndirectIndexed 0xFF).parts = (.lda, (ReadOperand.memory (.indirectIndexed 0xFF)).form) ∧
    (Instr.ldxImmediate 0xFF).parts = (.ldx, (ReadOperand.immediate 0xFF).form) ∧
    (Instr.ldyAbsoluteX 0xFFFF).parts = (.ldy, (ReadOperand.memory (.absoluteX 0xFFFF)).form) := ⟨rfl, rfl, rfl⟩

theorem witness_stores :
    (Instr.staIndexedIndirect 0xFF).parts = (.sta, .memory (.indexedIndirect 0xFF)) ∧
    (Instr.stxZeroPageY 0xFF).parts = (.stx, .memory (.zeroPageY 0xFF)) ∧
    (Instr.styAbsolute 0xFFFF).parts = (.sty, .memory (.absolute 0xFFFF)) := ⟨rfl, rfl, rfl⟩

/-- A blank state with the print port at F001. -/
def ported : State :=
  { blank 0x0200 [0x8D, 0x01, 0xF0] [] with config := { Config.unconfigured with printPort := some 0xF001 } }

theorem witness_print_port :
    (∃ t, exec (.staAbsolute 0xF001) ported = .next t ∧ storeOf (.staAbsolute 0xF001) ported = some (0xF001, 0x00)) ∧
    (∃ t, exec (.incAbsolute 0xF001) ported = .next t ∧ storeOf (.incAbsolute 0xF001) ported = none) :=
  ⟨⟨_, rfl, rfl⟩, ⟨_, rfl, rfl⟩⟩

theorem witness_arithmetic_and_logic :
    (Instr.adcImmediate 0xFF).parts = (.adc, (ReadOperand.immediate 0xFF).form) ∧
    (Instr.sbcAbsoluteY 0xFFFF).parts = (.sbc, (ReadOperand.memory (.absoluteY 0xFFFF)).form) ∧
    (Instr.andImmediate 0x80).parts = (.and, (ReadOperand.immediate 0x80).form) ∧
    (Instr.oraZeroPage 0xFF).parts = (.ora, (ReadOperand.memory (.zeroPage 0xFF)).form) ∧
    (Instr.eorIndexedIndirect 0xFF).parts = (.eor, (ReadOperand.memory (.indexedIndirect 0xFF)).form) :=
  ⟨rfl, rfl, rfl, rfl, rfl⟩

theorem witness_shifts_and_rotates :
    Instr.aslAccumulator.parts = (.asl, RmwOperand.accumulator.form) ∧
    (Instr.lsrAbsoluteX 0xFFFF).parts = (.lsr, (RmwOperand.memory (.absoluteX 0xFFFF)).form) ∧
    Instr.rolAccumulator.parts = (.rol, RmwOperand.accumulator.form) ∧
    (Instr.rolZeroPageX 0xFF).parts = (.rol, (RmwOperand.memory (.zeroPageX 0xFF)).form) ∧
    (Instr.rorZeroPage 0x00).parts = (.ror, (RmwOperand.memory (.zeroPage 0x00)).form) :=
  ⟨rfl, rfl, rfl, rfl, rfl⟩

theorem witness_increment_and_decrement :
    (Instr.incZeroPageX 0xFF).parts = (.inc, .memory (.zeroPageX 0xFF)) ∧
    (Instr.decAbsolute 0xFFFF).parts = (.dec, .memory (.absolute 0xFFFF)) := ⟨rfl, rfl⟩

theorem witness_increment_then_decrement :
    State.reset.Inv ∧ (Instr.incZeroPage 0xFF).parts = (.inc, .memory (.zeroPage 0xFF)) ∧
    (Instr.decZeroPage 0xFF).parts = (.dec, .memory (.zeroPage 0xFF)) ∧
    (∃ t u, exec (.incZeroPage 0xFF) State.reset = .next t ∧ exec (.decZeroPage 0xFF) t = .next u) ∧
    (∃ t u, exec (.decZeroPage 0xFF) State.reset = .next t ∧ exec (.incZeroPage 0xFF) t = .next u) :=
  ⟨by decide, rfl, rfl, ⟨_, _, rfl, rfl⟩, ⟨_, _, rfl, rfl⟩⟩

theorem witness_compares_and_bit_test :
    (Instr.cmpIndirectIndexed 0xFF).parts = (.cmp, (ReadOperand.memory (.indirectIndexed 0xFF)).form) ∧
    (Instr.cpxImmediate 0x00).parts = (.cpx, (ReadOperand.immediate 0x00).form) ∧
    (Instr.cpyAbsolute 0xFFFF).parts = (.cpy, (ReadOperand.memory (.absolute 0xFFFF)).form) ∧
    (Instr.bitAbsolute 0xFFFF).parts = (.bit, .memory (.absolute 0xFFFF)) := ⟨rfl, rfl, rfl, rfl⟩

/-- A JSR at 0300 to an RTS at 0400 (S2 of 95_test_vectors.md). -/
def jsrState : State := { blank 0x0300 [0x20, 0x00, 0x04] [(0x0400, 0x60)] with sp := 0xFF }

theorem witness_jsr_then_rts :
    jsrState.run = .running ∧ jsrState.haltReq = false ∧ jsrState.read jsrState.pc = 0x20 ∧
    ∃ t, step jsrState = .next t ∧ t.read t.pc = 0x60 ∧ ∃ u, step t = .next u := by
  refine ⟨rfl, rfl, by decide +kernel, ?_⟩
  obtain ⟨t, ht, h⟩ := leads_next (s := jsrState)
    (check := fun t => decide (t.read t.pc = 0x60) && leads t fun _ => true) (by decide +kernel)
  simp only [Bool.and_eq_true, decide_eq_true_eq] at h
  obtain ⟨u, hu, _⟩ := leads_next h.2
  exact ⟨t, ht, h.1, u, hu⟩

theorem witness_php_then_plp :
    ∃ t u, exec .php State.reset = .next t ∧ exec .plp t = .next u := ⟨_, _, rfl, rfl⟩

/-- The pulled status byte of a PLP or RTI, with SP at the top of the stack. -/
theorem witness_pulled_status :
    ∃ b, b = (blank 0x0200 [] [(0x0100, 0xFF)]).read (stackAddr 0x00) ∧ b = 0xFF := ⟨0xFF, by decide +kernel, rfl⟩

/-- A continuing BRK at 0300 whose handler is an RTI (S3 of 95_test_vectors.md). -/
def brkState : State :=
  { blank 0x0300 [0x00] [(0xFFFF, 0x04), (0x0400, 0x40)] with
    sp := 0x01, config := { Config.unconfigured with continueAfterBrk := true } }

theorem witness_brk_then_rti :
    brkState.run = .running ∧ brkState.haltReq = false ∧ brkState.config.continueAfterBrk = true ∧
    brkState.read brkState.pc = 0x00 ∧
    ∃ t, step brkState = .next t ∧ t.read t.pc = 0x40 ∧ ∃ u, step t = .next u := by
  refine ⟨rfl, rfl, rfl, by decide +kernel, ?_⟩
  obtain ⟨t, ht, h⟩ := leads_next (s := brkState)
    (check := fun t => decide (t.read t.pc = 0x40) && leads t fun _ => true) (by decide +kernel)
  simp only [Bool.and_eq_true, decide_eq_true_eq] at h
  obtain ⟨u, hu, _⟩ := leads_next h.2
  exact ⟨t, ht, h.1, u, hu⟩

/-- An instruction at the top of memory: its operand bytes are at 0000 and 0001. -/
def topState : State := blank 0xFFFF [0xAD, 0x34, 0x12] []

/-- An illegal opcode byte at 0300. -/
def illegalState : State := blank 0x0300 [0xFF] []

theorem witness_step :
    (topState.run = .running ∧
      decode (topState.read topState.pc) (topState.read (topState.pc + 1)) (topState.read (topState.pc + 2)) =
        .ok (.ldaAbsolute 0x1234) ∧ ∃ t, step topState = .next t) ∧
    (illegalState.run = .running ∧
      decode (illegalState.read illegalState.pc) (illegalState.read (illegalState.pc + 1))
        (illegalState.read (illegalState.pc + 2)) = .error (.illegalOpcode 0xFF)) := by
  refine ⟨⟨rfl, by decide +kernel, ?_⟩, rfl, by decide +kernel⟩
  obtain ⟨t, ht, _⟩ := leads_next (s := topState) (check := fun _ => true) (by decide +kernel)
  exact ⟨t, ht⟩

theorem witness_illegal_and_legal_bytes :
    (illegalState.run = .running ∧ illegalState.read illegalState.pc ∈ illegalBytes) ∧
    (topState.run = .running ∧ topState.read topState.pc ∉ illegalBytes ∧ ∃ t, step topState = .next t) :=
  ⟨⟨rfl, by decide +kernel⟩, rfl, by decide +kernel, witness_step.1.2.2⟩

theorem witness_not_running :
    State.reset.run ≠ .running ∧ { State.reset with run := .halted .brk }.run ≠ .running := by decide

theorem witness_halt_reasons :
    (illegalState.run = .running ∧ (∃ t, step illegalState = .next t) ∧
      decodeOpcode (illegalState.read illegalState.pc) = none) ∧
    (topState.run = .running ∧ (∃ t, step topState = .next t) ∧
      decodeOpcode (topState.read topState.pc) = some (.lda, .absolute)) := by
  refine ⟨⟨rfl, ?_, by decide +kernel⟩, rfl, witness_step.1.2.2, by decide +kernel⟩
  obtain ⟨t, ht, _⟩ := leads_next (s := illegalState) (check := fun _ => true) (by decide +kernel)
  exact ⟨t, ht⟩

theorem witness_run_that_halts :
    ∃ t, runFor 1 illegalState = .next t ∧ t.run ≠ .running := by
  obtain ⟨t, ht, h⟩ := leads_next (s := illegalState) (check := fun t => decide (t.run ≠ .running)) (by decide +kernel)
  refine ⟨t, ?_, of_decide_eq_true h⟩
  simp only [runFor, ht]
  rfl

/-- A jump to itself: a run that never ends (R185). -/
def loopState : State := blank 0x0200 [0x4C, 0x00, 0x02] []

theorem loop_step : step loopState = .next loopState := by
  obtain ⟨t, ht, h⟩ := leads_next (s := loopState) (check := fun t => decide (t = loopState)) (by decide +kernel)
  rw [ht, of_decide_eq_true h]

theorem witness_run_of_legal_bytes :
    ¬ loopState.haltedByError ∧
    ∀ k t, runFor k loopState = .next t → t.run = .running → decodeOpcode (t.read t.pc) ≠ none := by
  have hrun : loopState.run = .running := rfl
  have stays : ∀ k, runFor k loopState = .next loopState := by
    intro k
    induction k with
    | zero => rfl
    | succ k ih => simp only [runFor, hrun, loop_step, ih]
  refine ⟨fun ⟨_, _, h⟩ => ?_, fun k t ht _ => ?_⟩
  · rw [hrun] at h; cases h
  · rw [stays k] at ht; cases ht; decide +kernel

theorem witness_halted_by_error : ∃ t, step illegalState = .next t ∧ t.haltedByError := by
  obtain ⟨t, ht, h⟩ := leads_next (s := illegalState)
    (check := fun t => decide (t.run = .halted (.illegalOpcode 0xFF 0x0300))) (by decide +kernel)
  exact ⟨t, ht, _, _, of_decide_eq_true h⟩

/-- A JSR in the stack page whose pushes overwrite its own operand bytes (R71). -/
theorem witness_jsr_over_itself :
    ({ blank 0x01FD [0x20, 0x00, 0x04] [] with sp := 0xFF }).run = .running ∧
    ({ blank 0x01FD [0x20, 0x00, 0x04] [] with sp := 0xFF }).read 0x01FD = 0x20 := ⟨rfl, by decide +kernel⟩

theorem witness_lengths :
    decodeBytes [0xEA] = .ok (.nop, []) ∧ Instr.nop.mode = .implied ∧
    decodeBytes [0xA9, 0xFF, 0x00] = .ok (.ldaImmediate 0xFF, [0x00]) ∧ (Instr.ldaImmediate 0xFF).mode = .immediate ∧
    decodeBytes [0x0A, 0x00] = .ok (.aslAccumulator, [0x00]) ∧ Instr.aslAccumulator.mode = .accumulator ∧
    decodeBytes [0x6C, 0xFF, 0x02] = .ok (.jmpIndirect 0x02FF, []) ∧ (Instr.jmpIndirect 0x02FF).mode = .indirect := by
  decide +kernel

theorem witness_well_formed :
    (Instr.bne (-128)).wellFormed = true ∧ (Instr.bne 127).wellFormed = true ∧ Instr.brk.wellFormed = true := by decide

theorem witness_memory_frame :
    (∃ t, exec .pha State.reset = .next t) ∧ (0x01FE : Addr) ∉ writtenAddrs .pha State.reset ∧
    (∃ t, exec .nop State.reset = .next t) ∧ writtenAddrs .nop State.reset = [] := by
  refine ⟨⟨_, rfl⟩, by decide +kernel, ⟨_, rfl⟩, by decide⟩

/-- NOP writes no flag and no register but PC; STA through the zero page is a frame with a memory operand. -/
theorem witness_flag_and_register_frames :
    (∃ t, exec .nop State.reset = .next t) ∧
    Instr.nop.mnemonic ∉ [.lda, .ldx, .ldy, .tax, .tay, .txa, .tya, .tsx, .pla, .adc, .sbc, .and, .ora, .eor, .asl, .lsr,
      .rol, .ror, .inc, .dec, .inx, .iny, .dex, .dey, .cmp, .cpx, .cpy, .bit, .clc, .sec, .clv, .cld, .sed, .cli, .sei,
      .brk, .plp, .rti, .txs, .pha, .php, .jsr, .rts] ∧
    (∃ t, exec (.aslZeroPage 0xFF) State.reset = .next t) ∧
    ¬ ((Instr.aslZeroPage 0xFF).mnemonic ∈ [.asl, .lsr, .rol, .ror] ∧ (Instr.aslZeroPage 0xFF).mode = .accumulator) :=
  ⟨⟨_, rfl⟩, by decide, ⟨_, rfl⟩, by decide⟩

/-- One instruction for each length that PC can advance by, and a branch that is not taken. -/
theorem witness_advancing_instructions :
    [Instr.nop, .aslAccumulator, .ldaImmediate 0xFF, .beq (-128), .incAbsoluteX 0xFFFF].all (fun i =>
      decide (i.mnemonic ∉ [.jmp, .jsr, .rts, .rti, .brk] ∧ branchTaken State.reset.p i.mnemonic = false)) = true ∧
    (∃ t, exec .nop State.reset = .next t) ∧ Instr.nop.mode = .implied ∧
    (∃ t, exec .aslAccumulator State.reset = .next t) ∧ Instr.aslAccumulator.mode = .accumulator ∧
    (∃ t, exec (.ldaImmediate 0xFF) State.reset = .next t) ∧ (Instr.ldaImmediate 0xFF).mode = .immediate ∧
    (∃ t, exec (.beq (-128)) State.reset = .next t) ∧ (Instr.beq (-128)).mode = .relative ∧
    (∃ t, exec (.incAbsoluteX 0xFFFF) State.reset = .next t) ∧ (Instr.incAbsoluteX 0xFFFF).mode = .absoluteX :=
  ⟨by decide, ⟨_, rfl⟩, rfl, ⟨_, rfl⟩, rfl, ⟨_, rfl⟩, rfl, ⟨_, rfl⟩, rfl, ⟨_, rfl⟩, rfl⟩

/-- The two pushes of the status byte, at both ends of SP, and an instruction that pushes none. -/
theorem witness_inert_flags :
    (∃ t, exec .php { State.reset with sp := 0x00 } = .next t) ∧
    statusAddr .php { State.reset with sp := 0x00 } = 0x0100 ∧ Instr.php.mnemonic ∈ [.php, .brk] ∧
    (∃ t, exec .brk { State.reset with sp := 0x01 } = .next t) ∧
    statusAddr .brk { State.reset with sp := 0x01 } = 0x01FF ∧ Instr.brk.mnemonic ∈ [.php, .brk] ∧
    (∃ t, exec (.adcImmediate 0x99) State.reset = .next t) ∧ (Instr.adcImmediate 0x99).mnemonic ∉ [.php, .brk] :=
  ⟨⟨_, rfl⟩, by decide, by decide, ⟨_, rfl⟩, by decide, by decide, ⟨_, rfl⟩, by decide⟩

theorem witness_canonical_memories :
    Memory.wf [(0x0000, 0x01), (0xFFFF, 0xFF)] ∧ State.reset.Inv ∧ loopState.Inv := by
  refine ⟨by decide, by decide, by decide +kernel⟩

theorem witness_reachable : Reachable (State.reset.setHaltReq true) :=
  .command State.reset _ (.setHaltReq true) (.construct _ _ _ _) rfl

theorem witness_host_commands :
    (∃ t, State.reset.command (.setHaltReq true) = .next t) ∧ (∃ t, State.reset.command (.load [0xEA] 0xFFFF) = .next t) ∧
    (∃ t, State.reset.command (.start 0x0000 none) = .next t) ∧ (∃ t, State.reset.command .step = .next t) :=
  ⟨⟨_, rfl⟩, ⟨_, rfl⟩, ⟨_, rfl⟩, ⟨_, rfl⟩⟩

theorem witness_load_at_the_top :
    65536 < (0xFFFF : Addr).toNat + [0x01, (0x02 : Byte)].length ∧
    (0xFFFF : Addr).toNat + [(0x01 : Byte)].length ≤ 65536 := by decide

theorem witness_construction :
    State.reset = State.construct InitRegs.example95 Config.unconfigured 0x0000 false := rfl

end Sys2Proof.Tests
end

/-! SUPPORT. The flags: what each flag operation leaves, the flags after each family's operation, and the two flags that
no instruction reads (10_state.md R27, R28), `InertFlag`, named so that what holds of D and of I is proved once. -/

namespace Sys2Proof.Machine

/-! ## What each write of a flag leaves -/

@[simp] theorem Flags.setC_n (p : Flags) (c : Bool) : (p.setC c).n = p.n := rfl
@[simp] theorem Flags.setC_v (p : Flags) (c : Bool) : (p.setC c).v = p.v := rfl
@[simp] theorem Flags.setC_z (p : Flags) (c : Bool) : (p.setC c).z = p.z := rfl
@[simp] theorem Flags.setV_n (p : Flags) (v : Bool) : (p.setV v).n = p.n := rfl
@[simp] theorem Flags.setV_z (p : Flags) (v : Bool) : (p.setV v).z = p.z := rfl
@[simp] theorem Flags.setV_c (p : Flags) (v : Bool) : (p.setV v).c = p.c := rfl
@[simp] theorem Flags.setI_n (p : Flags) (i : Bool) : (p.setI i).n = p.n := rfl
@[simp] theorem Flags.setI_v (p : Flags) (i : Bool) : (p.setI i).v = p.v := rfl
@[simp] theorem Flags.setI_z (p : Flags) (i : Bool) : (p.setI i).z = p.z := rfl
@[simp] theorem Flags.setI_c (p : Flags) (i : Bool) : (p.setI i).c = p.c := rfl
@[simp] theorem Flags.setD_n (p : Flags) (d : Bool) : (p.setD d).n = p.n := rfl
@[simp] theorem Flags.setD_v (p : Flags) (d : Bool) : (p.setD d).v = p.v := rfl
@[simp] theorem Flags.setD_z (p : Flags) (d : Bool) : (p.setD d).z = p.z := rfl
@[simp] theorem Flags.setD_c (p : Flags) (d : Bool) : (p.setD d).c = p.c := rfl
@[simp] theorem Flags.compare_v (p : Flags) (r m : Byte) : (p.compare r m).v = p.v := rfl
@[simp] theorem Flags.bitTest_c (p : Flags) (a m : Byte) : (p.bitTest a m).c = p.c := rfl

/-! ## The flags after each family's operation -/

section
variable (s : State) (o : ReadOperand)

@[simp] theorem opLda_p : (opLda o s).p = s.p.setNZ (operandValue s o) := rfl
@[simp] theorem opLdx_p : (opLdx o s).p = s.p.setNZ (operandValue s o) := rfl
@[simp] theorem opLdy_p : (opLdy o s).p = s.p.setNZ (operandValue s o) := rfl
@[simp] theorem opAnd_p : (opAnd o s).p = s.p.setNZ (s.a &&& operandValue s o) := rfl
@[simp] theorem opOra_p : (opOra o s).p = s.p.setNZ (s.a ||| operandValue s o) := rfl
@[simp] theorem opEor_p : (opEor o s).p = s.p.setNZ (s.a ^^^ operandValue s o) := rfl
@[simp] theorem opCompare_p (r : Byte) : (opCompare r o s).p = s.p.compare r (operandValue s o) := rfl
@[simp] theorem opBit_p (m : MemOperand) : (opBit m s).p = s.p.bitTest s.a (s.read (effectiveAddr s m)) := rfl

@[simp] theorem opShift_p (f : Byte → Shifted) (l : RmwOperand) :
    (opShift f l s).p =
      (s.p.setC (f (locRead s (locate s l))).carry).setNZ (f (locRead s (locate s l))).r := by
  simp [opShift]

@[simp] theorem opStepMemory_p (f : Byte → Byte) (l : RmwOperand) :
    (opStepMemory f l s).p = s.p.setNZ (f (locRead s (locate s l))) := by
  simp [opStepMemory]

end

/-! ## The inert flags -/

/-- The two flags that an instruction can set and none reads, but to push the status byte: D (R27) and I (R28). -/
inductive InertFlag where
  | d
  | i

/-- The bit of the status byte that holds the flag (R25). -/
def InertFlag.bit : InertFlag → Nat
  | .d => 3
  | .i => 2

/-- The instructions that write the flag (R29). -/
def InertFlag.writers : InertFlag → List Mnemonic
  | .d => [.cld, .sed, .plp, .rti]
  | .i => [.cli, .sei, .brk, .plp, .rti]

/-- The flag's value. -/
def Flags.get (p : Flags) : InertFlag → Bool
  | .d => p.d
  | .i => p.i

/-- Write the flag. -/
def Flags.put (p : Flags) : InertFlag → Bool → Flags
  | .d, b => p.setD b
  | .i, b => p.setI b

/-- Write the flag of a state: the other state of the comparison that R27 and R28 make. -/
def State.put (s : State) (x : InertFlag) (b : Bool) : State := s.setFlags (s.p.put x b)

section
variable (p : Flags) (x : InertFlag) (b : Bool)

@[simp] theorem Flags.get_put : (p.put x b).get x = b := by cases x <;> rfl
@[simp] theorem Flags.put_get : p.put x (p.get x) = p := by cases x <;> rfl
@[simp] theorem Flags.put_n : (p.put x b).n = p.n := by cases x <;> rfl
@[simp] theorem Flags.put_v : (p.put x b).v = p.v := by cases x <;> rfl
@[simp] theorem Flags.put_z : (p.put x b).z = p.z := by cases x <;> rfl
@[simp] theorem Flags.put_c : (p.put x b).c = p.c := by cases x <;> rfl

@[simp] theorem Flags.put_setNZ (v : Byte) : (p.put x b).setNZ v = (p.setNZ v).put x b := by cases x <;> rfl
@[simp] theorem Flags.put_setC (c : Bool) : (p.put x b).setC c = (p.setC c).put x b := by cases x <;> rfl
@[simp] theorem Flags.put_setV (v : Bool) : (p.put x b).setV v = (p.setV v).put x b := by cases x <;> rfl
@[simp] theorem Flags.put_compare (r m : Byte) : (p.put x b).compare r m = (p.compare r m).put x b := by cases x <;> rfl
@[simp] theorem Flags.put_bitTest (a m : Byte) : (p.put x b).bitTest a m = (p.bitTest a m).put x b := by cases x <;> rfl

@[simp] theorem Flags.put_d_setD (d : Bool) : (p.put .d b).setD d = p.setD d := rfl
@[simp] theorem Flags.put_i_setI (i : Bool) : (p.put .i b).setI i = p.setI i := rfl
@[simp] theorem Flags.put_d_setI (i : Bool) : (p.put .d b).setI i = (p.setI i).put .d b := rfl
@[simp] theorem Flags.put_i_setD (d : Bool) : (p.put .i b).setD d = (p.setD d).put .i b := rfl

@[simp] theorem Flags.get_d_setI (i : Bool) : (p.setI i).get .d = p.get .d := rfl

/-- An inert flag is its own bit of the status byte and no other. -/
theorem Flags.getLsbD_pack_put {k : Nat} (hk : k < 8) :
    (p.put x b).pack.getLsbD k = if k = x.bit then b else p.pack.getLsbD k :=
  match x with
  | .d => Flags.pack_with_d p b hk
  | .i => Flags.pack_with_i p b hk

end

/-! ## The operations on a state whose inert flag is written: each leaves the flag as written -/

section
variable (s : State) (x : InertFlag) (b : Bool)

@[simp] theorem State.put_a : (s.put x b).a = s.a := rfl
@[simp] theorem State.put_x : (s.put x b).x = s.x := rfl
@[simp] theorem State.put_y : (s.put x b).y = s.y := rfl
@[simp] theorem State.put_sp : (s.put x b).sp = s.sp := rfl
@[simp] theorem State.put_pc : (s.put x b).pc = s.pc := rfl
@[simp] theorem State.put_p : (s.put x b).p = s.p.put x b := rfl
@[simp] theorem State.put_mem : (s.put x b).mem = s.mem := rfl
@[simp] theorem State.put_run : (s.put x b).run = s.run := rfl
@[simp] theorem State.put_out : (s.put x b).out = s.out := rfl
@[simp] theorem State.put_haltReq : (s.put x b).haltReq = s.haltReq := rfl
@[simp] theorem State.put_config : (s.put x b).config = s.config := rfl

theorem State.put_get : s.put x (s.p.get x) = s := by simp [State.put, State.setFlags]

@[simp] theorem State.read_put (a : Addr) : (s.put x b).read a = s.read a := rfl
@[simp] theorem State.read16_put (a : Addr) : (s.put x b).read16 a = s.read16 a := rfl
@[simp] theorem State.pull_put_fst : (s.put x b).pull.1 = s.pull.1 := rfl
@[simp] theorem State.pull16_put_fst : (s.put x b).pull16.1 = s.pull16.1 := rfl
@[simp] theorem branchTarget_put (k : Int) : branchTarget (s.put x b) k = branchTarget s k := rfl

@[simp] theorem effectiveAddr_put (m : MemOperand) : effectiveAddr (s.put x b) m = effectiveAddr s m := by
  cases m <;> rfl

@[simp] theorem operandValue_put (o : ReadOperand) : operandValue (s.put x b) o = operandValue s o := by
  cases o <;> simp [operandValue]

@[simp] theorem locate_put (o : RmwOperand) : locate (s.put x b) o = locate s o := by
  cases o <;> simp [locate]

@[simp] theorem locRead_put (l : Location) : locRead (s.put x b) l = locRead s l := by
  cases l <;> rfl

@[simp] theorem asTarget_put (f : Form) : Form.asTarget (s.put x b) f = Form.asTarget s f := by
  cases f with
  | memory m => exact effectiveAddr_put s x b m
  | _ => rfl

@[simp] theorem State.put_setFlags (q : Flags) : (s.put x b).setFlags q = s.setFlags q := rfl
@[simp] theorem State.setFlags_put (q : Flags) : s.setFlags (q.put x b) = (s.setFlags q).put x b := rfl
@[simp] theorem State.put_setNZ (v : Byte) : (s.put x b).setNZ v = (s.setNZ v).put x b := by cases x <;> rfl
@[simp] theorem State.put_loadA (v : Byte) : (s.put x b).loadA v = (s.loadA v).put x b := by cases x <;> rfl
@[simp] theorem State.put_loadX (v : Byte) : (s.put x b).loadX v = (s.loadX v).put x b := by cases x <;> rfl
@[simp] theorem State.put_loadY (v : Byte) : (s.put x b).loadY v = (s.loadY v).put x b := by cases x <;> rfl
@[simp] theorem State.put_takeSum (q : Sum) : (s.put x b).takeSum q = (s.takeSum q).put x b := by cases x <;> rfl
@[simp] theorem State.put_advance (n : Nat) : (s.put x b).advance n = (s.advance n).put x b := rfl
@[simp] theorem State.put_jump (w : Addr) : (s.put x b).jump w = (s.jump w).put x b := rfl
@[simp] theorem State.put_push (v : Byte) : (s.put x b).push v = (s.push v).put x b := rfl
@[simp] theorem State.put_push16 (w : Addr) : (s.put x b).push16 w = (s.push16 w).put x b := rfl
@[simp] theorem State.put_pull_snd : (s.put x b).pull.2 = s.pull.2.put x b := rfl
@[simp] theorem State.put_pull16_snd : (s.put x b).pull16.2 = s.pull16.2.put x b := rfl

@[simp] theorem State.put_storeByte (a : Addr) (v : Byte) :
    (s.put x b).storeByte a v = (s.storeByte a v).put x b := by
  simp only [State.storeByte, State.put_config, apply_ite (State.put · x b)]
  rfl

@[simp] theorem locWrite_put (l : Location) (v : Byte) :
    locWrite (s.put x b) l v = (locWrite s l v).put x b := by
  cases l <;> rfl

@[simp] theorem branchIf_put (c : Bool) (k : Int) : branchIf c k (s.put x b) = (branchIf c k s).put x b := by
  cases c <;> rfl

@[simp] theorem opCompare_put (r : Byte) (o : ReadOperand) :
    opCompare r o (s.put x b) = (opCompare r o s).put x b := by
  simp [opCompare]

@[simp] theorem opShift_put (f : Byte → Shifted) (o : RmwOperand) :
    opShift f o (s.put x b) = (opShift f o s).put x b := by
  simp [opShift]

@[simp] theorem opStepMemory_put (f : Byte → Byte) (o : RmwOperand) :
    opStepMemory f o (s.put x b) = (opStepMemory f o s).put x b := by
  simp [opStepMemory]

@[simp] theorem opStore_put (m : MemOperand) (v : Byte) :
    opStore m v (s.put x b) = (opStore m v s).put x b := by
  simp [opStore]

end

end Sys2Proof.Machine

/-! SUPPORT. What each mnemonic leaves unchanged: registers and flags it is no writer of, and the host's inputs. -/

namespace Sys2Proof.Machine

/-- Where an instruction leads is its mnemonic's meaning. -/
theorem eq_meaning_of_exec {i : Instr} {s t : State} (h : exec i s = .next t) : t = meaning s i.form i.mnemonic :=
  Host.Outcome.next.inj (h.symm.trans (exec_eq i s))

section
variable (s : State) (f : Form) {mn : Mnemonic}

/-! ## Registers -/

/-- A read-modify-write instruction that is not a shift of the accumulator names a byte of memory. -/
theorem form_memory_of_rmw (i : Instr) (hacc : ¬ (i.mnemonic ∈ [.asl, .lsr, .rol, .ror] ∧ i.mode = .accumulator))
    (h : i.mnemonic ∈ [.asl, .lsr, .rol, .ror, .inc, .dec]) : ∃ m, i.form = .memory m := by
  by_cases hshift : i.mnemonic ∈ [.asl, .lsr, .rol, .ror]
  · refine (form_shift i hshift).resolve_left fun hf => hacc ⟨hshift, ?_⟩
    rw [Instr.mode, hf, Form.mode]
  · exact form_memory i (by simp at h hshift ⊢; tauto)

/-- A keeps its value where A is not written by name; a read-modify-write instruction has to name a byte of memory. -/
theorem meaning_a (h : mn ∉ [.lda, .txa, .tya, .pla, .adc, .sbc, .and, .ora, .eor])
    (hrmw : mn ∈ [.asl, .lsr, .rol, .ror, .inc, .dec] → ∃ m, f = .memory m) : (meaning s f mn).a = s.a := by
  cases mn with
  | lda | txa | tya | pla | adc | sbc | and | ora | eor => simp at h
  | asl | lsr | rol | ror | inc | dec =>
    obtain ⟨m, rfl⟩ := hrmw (by simp)
    rfl
  | _ => simp [meaning]

theorem meaning_x (h : mn ∉ [.ldx, .tax, .tsx, .inx, .dex]) : (meaning s f mn).x = s.x := by
  cases mn with
  | ldx | tax | tsx | inx | dex => simp at h
  | _ => simp [meaning]

theorem meaning_y (h : mn ∉ [.ldy, .tay, .iny, .dey]) : (meaning s f mn).y = s.y := by
  cases mn with
  | ldy | tay | iny | dey => simp at h
  | _ => simp [meaning]

theorem meaning_sp (h : mn ∉ [.txs, .pha, .php, .jsr, .brk, .pla, .plp, .rts, .rti]) :
    (meaning s f mn).sp = s.sp := by
  cases mn with
  | txs | pha | php | jsr | brk | pla | plp | rts | rti => simp at h
  | _ => simp [meaning]

/-! ## Flags -/

theorem meaning_n_z
    (h : mn ∉ [.lda, .ldx, .ldy, .tax, .tay, .txa, .tya, .tsx, .pla, .adc, .sbc, .and, .ora, .eor, .asl, .lsr, .rol,
      .ror, .inc, .dec, .inx, .iny, .dex, .dey, .cmp, .cpx, .cpy, .bit, .plp, .rti]) :
    (meaning s f mn).p.n = s.p.n ∧ (meaning s f mn).p.z = s.p.z := by
  cases mn with
  | sta | stx | sty | clc | sec | cli | sei | cld | sed | clv | bpl | bmi | bvc | bvs | bcc | bcs | bne | beq
  | jmp | jsr | rts | pha | php | txs | brk | nop => simp [meaning]
  | _ => simp at h

theorem meaning_c (h : mn ∉ [.adc, .sbc, .asl, .rol, .lsr, .ror, .cmp, .cpx, .cpy, .clc, .sec, .plp, .rti]) :
    (meaning s f mn).p.c = s.p.c := by
  cases mn with
  | adc | sbc | asl | rol | lsr | ror | cmp | cpx | cpy | clc | sec | plp | rti => simp at h
  | _ => simp [meaning]

theorem meaning_v (h : mn ∉ [.adc, .sbc, .bit, .clv, .plp, .rti]) : (meaning s f mn).p.v = s.p.v := by
  cases mn with
  | adc | sbc | bit | clv | plp | rti => simp at h
  | _ => simp [meaning]

/-! ## The host's inputs (R5, R35) -/

@[simp] theorem meaning_config : (meaning s f mn).config = s.config := by
  cases mn <;> simp [meaning]

@[simp] theorem meaning_haltReq : (meaning s f mn).haltReq = s.haltReq := by
  cases mn <;> simp [meaning]

end

@[simp] theorem State.load_config (s : State) (vs : List Byte) (o : Addr) : (s.load vs o).2.config = s.config := by
  unfold State.load
  split <;> simp

@[simp] theorem State.load_haltReq (s : State) (vs : List Byte) (o : Addr) : (s.load vs o).2.haltReq = s.haltReq := by
  unfold State.load
  split <;> simp

theorem step_keeps_host_inputs {s t : State} (h : step s = .next t) :
    t.config = s.config ∧ t.haltReq = s.haltReq := by
  obtain ⟨-, rfl⟩ | ⟨-, -, rfl⟩ | ⟨-, i, -, rfl⟩ := step_cases h
  · exact ⟨rfl, rfl⟩
  · exact ⟨rfl, rfl⟩
  · simp

end Sys2Proof.Machine

/-! SUPPORT. The comparison of two runs that differ in an inert flag alone, by mnemonic: those that write the flag end
alike, the two that push it differ in the pushed bit, and every other one carries the difference along. -/

namespace Sys2Proof.Machine

open Sys2Proof.Statements

section
variable (s : State) (f : Form) {mn : Mnemonic} (x : InertFlag) (b : Bool)

/-- An instruction that neither writes the flag nor pushes it carries it along and depends on it in nothing else. -/
theorem meaning_put (hw : mn ∉ x.writers) (hp : mn ∉ [.php, .brk]) :
    meaning (s.put x b) f mn = (meaning s f mn).put x b := by
  cases mn with
  | php | brk => simp at hp
  | plp | rti => cases x <;> simp [InertFlag.writers] at hw
  | cld | sed | cli | sei => cases x <;> simp [InertFlag.writers, meaning] at hw ⊢
  | txs => rfl
  | lda | ldx | ldy | adc | sbc | and | ora | eor | bit =>
    simp [meaning, opLda, opLdx, opLdy, opAdc, opSbc, opAnd, opOra, opEor, opBit]
  | _ => simp [meaning]

/-- An instruction that writes the flag, and does not push it as well, ends as if the flag had been any other value. -/
theorem meaning_put_of_writer (hw : mn ∈ x.writers) (hb : mn ≠ .brk) :
    meaning (s.put x b) f mn = meaning s f mn := by
  cases mn with
  | brk => exact absurd rfl hb
  | plp | rti => rfl
  | cld | sed =>
    cases x with
    | d => rfl
    | i => simp [InertFlag.writers] at hw
  | cli | sei =>
    cases x with
    | d => simp [InertFlag.writers] at hw
    | i => rfl
  | _ => cases x <;> simp [InertFlag.writers] at hw

/-- `u` is `t` but for the flag `x` and for memory. -/
def State.EqButFlagAndMemory (u t : State) (x : InertFlag) : Prop :=
  u = { t with mem := u.mem, p := t.p.put x (u.p.get x) }

theorem State.eqButFlagAndMemory_put : (s.put x b).EqButFlagAndMemory s x := by
  simp [State.EqButFlagAndMemory, State.put, State.setFlags]

theorem State.eqButFlagAndMemory_refl : s.EqButFlagAndMemory s x := by
  simp [State.EqButFlagAndMemory]

theorem php_put_eqButFlagAndMemory :
    (meaning (s.put x b) f .php).EqButFlagAndMemory (meaning s f .php) x := by
  apply State.eq_of_fields <;> simp [meaning]

/-- PHP pushes the flag: the status bytes of the two runs differ in its bit alone. -/
theorem php_put_alikeButBit :
    AlikeButBit (meaning (s.put x b) f .php) (meaning s f .php) (stackAddr s.sp) x.bit b := by
  refine ⟨fun a ha => by simp [meaning, ha], fun k hk => ?_⟩
  simpa [meaning] using Flags.getLsbD_pack_put s.p x b hk

theorem State.endRunByBrk_run :
    s.endRunByBrk.run = if s.run = .running ∧ s.config.continueAfterBrk = false then .halted .brk else s.run := by
  rw [State.endRunByBrk_eq]

theorem brk_put_eqButFlagAndMemory :
    (meaning (s.put x b) f .brk).EqButFlagAndMemory (meaning s f .brk) x := by
  have flags : (s.p.put x b).setI true = (s.p.setI true).put x (((s.p.put x b).setI true).get x) := by
    cases x <;> rfl
  apply State.eq_of_fields
  case hp => simpa [meaning] using flags
  all_goals simp [meaning, State.takeBrk_pc, State.endRunByBrk_run]

/-- BRK takes its entry whatever the flag holds; the status bytes of the two frames differ in its bit alone. -/
theorem brk_put_alikeButBit :
    AlikeButBit (meaning (s.put x b) f .brk) (meaning s f .brk) (stackAddr (s.sp - 2)) x.bit b := by
  have third : s.sp - 1 - 1 = s.sp - 2 := by bv_omega
  refine ⟨fun a ha => ?_, fun k hk => ?_⟩
  · simp only [meaning, State.read_endRunByBrk, State.read_takeBrk, State.put_sp, State.put_pc, State.read_put, third,
      if_neg ha]
    rfl
  · simpa only [meaning, State.read_endRunByBrk, State.read_takeBrk, State.put_sp, State.put_p, third, if_true]
      using Flags.getLsbD_pack_put s.p x b hk

/-- An instruction that does not write the flag keeps its value: the flag it carries along is the one it found. -/
theorem meaning_get (hw : mn ∉ x.writers) : (meaning s f mn).p.get x = s.p.get x := by
  cases mn with
  | php => rfl
  | brk =>
    cases x with
    | d => simp [meaning]
    | i => simp [InertFlag.writers] at hw
  | _ =>
    have h := meaning_put s f x (s.p.get x) hw (by simp)
    rw [State.put_get] at h
    rw [h, State.put_p, Flags.get_put]

/-- R27 and R28, for either flag: two states that differ in it alone go to states that differ in it alone, and in its
pushed copy. -/
theorem exec_put {i : Instr} {s t : State} (h : exec i s = .next t) :
    ∃ u, exec i (s.put x b) = .next u ∧ u.EqButFlagAndMemory t x ∧
      (i.mnemonic ∉ [.php, .brk] → u.mem = t.mem) ∧
      (i.mnemonic ∈ [.php, .brk] → AlikeButBit u t (statusAddr i s) x.bit b) ∧
      u.p.get x = if i.mnemonic ∈ x.writers then t.p.get x else b := by
  obtain rfl := eq_meaning_of_exec h
  refine ⟨_, exec_eq i _, ?_⟩
  by_cases hphp : i.mnemonic = .php
  · have status : statusAddr i s = stackAddr s.sp := if_pos hphp
    have hw : Mnemonic.php ∉ x.writers := by cases x <;> decide
    rw [status, hphp, if_neg hw]
    exact ⟨php_put_eqButFlagAndMemory s _ x b, by simp, fun _ => php_put_alikeButBit s _ x b, Flags.get_put _ _ _⟩
  by_cases hbrk : i.mnemonic = .brk
  · have status : statusAddr i s = stackAddr (s.sp - 2) := if_neg hphp
    rw [status, hbrk]
    refine ⟨brk_put_eqButFlagAndMemory s _ x b, by simp, fun _ => brk_put_alikeButBit s _ x b, ?_⟩
    cases x <;> simp [InertFlag.writers, meaning]
  have hp : i.mnemonic ∉ [.php, .brk] := by simp [hphp, hbrk]
  by_cases hw : i.mnemonic ∈ x.writers
  · rw [meaning_put_of_writer s _ x b hw hbrk]
    exact ⟨State.eqButFlagAndMemory_refl _ x, fun _ => rfl, fun h => absurd h hp, (if_pos hw).symm⟩
  · rw [meaning_put s _ x b hw hp, if_neg hw]
    exact ⟨State.eqButFlagAndMemory_put _ x b, fun _ => rfl, fun h => absurd h hp, Flags.get_put _ _ _⟩

end

end Sys2Proof.Machine

/-! SUPPORT. The status byte, bit by bit (10_state.md R25, R26). -/

namespace Sys2Proof.Machine

/-- The six writable flags at their places: each is the bit that `UnpackP` takes it from. -/
theorem Flags.getLsbD_pack_flags (p : Flags) :
    p.pack.getLsbD 7 = p.n ∧ p.pack.getLsbD 6 = p.v ∧ p.pack.getLsbD 3 = p.d ∧ p.pack.getLsbD 2 = p.i ∧
    p.pack.getLsbD 1 = p.z ∧ p.pack.getLsbD 0 = p.c := by
  have h := Flags.unpack_pack p
  exact ⟨congrArg Flags.n h, congrArg Flags.v h, congrArg Flags.d h, congrArg Flags.i h, congrArg Flags.z h,
    congrArg Flags.c h⟩

/-- U and B read 1 in every status byte (R26). -/
theorem Flags.getLsbD_pack_hardwired (p : Flags) : p.pack.getLsbD 5 = true ∧ p.pack.getLsbD 4 = true := by
  obtain ⟨n, v, d, i, z, c⟩ := p
  revert n v d i z c
  decide

/-- A status byte that is taken back and packed again differs in the hardwired bits alone. -/
theorem Flags.pack_unpack (b : Byte) : (Flags.unpack b).pack = b ||| 0x30 := by
  obtain ⟨n, v, d, i, z, c⟩ := Flags.getLsbD_pack_flags (Flags.unpack b)
  obtain ⟨u, brk⟩ := Flags.getLsbD_pack_hardwired (Flags.unpack b)
  refine BitVec.eq_of_getLsbD_eq fun k hk => ?_
  interval_cases k <;> simp_all [Flags.unpack]

end Sys2Proof.Machine

/-! PROOFS. The obligations of 10_state.md. -/

namespace Sys2Proof.Proofs

open Sys2Proof.Machine

/-- Settles O48: a mnemonic that is no writer of a flag keeps it. -/
theorem flagsChangeOnlyByTheirWriters : Obligations.FlagsChangeOnlyByTheirWriters := by
  intro i s t h
  obtain rfl := eq_meaning_of_exec h
  exact ⟨meaning_n_z s _, meaning_c s _, meaning_v s _, meaning_get s _ .d, meaning_get s _ .i⟩

/-- Settles O49, as O48 for registers; INC and DEC name a byte of memory, and so does a shift that is not in the
Accumulator mode. -/
theorem registersChangeOnlyByTheirWriters : Obligations.RegistersChangeOnlyByTheirWriters := by
  intro i s t h
  obtain rfl := eq_meaning_of_exec h
  exact ⟨fun ha hacc => meaning_a s _ ha (form_memory_of_rmw i hacc), meaning_x s _, meaning_y s _, meaning_sp s _⟩

/-- Settles O51: D is an inert flag. -/
theorem decimalFlagIsInert : Obligations.DecimalFlagIsInert :=
  fun _ _ _ d h => exec_put .d d h

/-- Settles O52: I is an inert flag. -/
theorem interruptDisableMasksNothing : Obligations.InterruptDisableMasksNothing :=
  fun _ _ _ d h => exec_put .i d h

/-- Settles O53: LOAD writes memory and START PC and the run state; a STEP is one instruction at most, and none writes
the host's inputs. -/
theorem hostInputsAreNeverWritten : Obligations.HostInputsAreNeverWritten := by
  intro s t c h
  cases c with
  | load bytes origin =>
    obtain rfl := Host.Outcome.next.inj h
    exact ⟨State.load_config s bytes origin, State.load_haltReq s bytes origin⟩
  | start origin pcOverride =>
    obtain rfl := Host.Outcome.next.inj h
    exact ⟨State.start_config s origin pcOverride, State.start_haltReq s origin pcOverride⟩
  | step => exact step_keeps_host_inputs h
  | setHaltReq level =>
    obtain rfl := Host.Outcome.next.inj h
    exact ⟨State.setHaltReq_config s level, State.setHaltReq_haltReq s level⟩

/-- Settles O46: the places of the flags follow from the round trip of `PackP` and `UnpackP`. -/
theorem statusByteHasEightFlagsInOrder : Obligations.StatusByteHasEightFlagsInOrder := by
  refine ⟨fun p => ?_, Flags.pack_unpack⟩
  obtain ⟨n, v, d, i, z, c⟩ := Flags.getLsbD_pack_flags p
  obtain ⟨u, b⟩ := Flags.getLsbD_pack_hardwired p
  exact ⟨n, v, u, b, d, i, z, c, rfl, rfl, Flags.unpack_pack p⟩

/-- Settles O60: a newly constructed machine holds the draw, and its memory lists nothing: every byte reads
as unlisted. -/
theorem constructionHoldsForEveryDraw : Obligations.ConstructionHoldsForEveryDraw := by
  rintro init config pc haltReq _ rfl
  have zero : ∀ a, (State.construct init config pc haltReq).read a = 0x00 := fun _ => rfl
  exact ⟨rfl, rfl, rfl, rfl, rfl, rfl, rfl, rfl, rfl, rfl, rfl, rfl, zero, rfl, rfl⟩

end Sys2Proof.Proofs

/-! SUPPORT. What a canonical memory lists, and the writes of an instruction in the order it makes them. -/

namespace Sys2Proof.Machine

open Sys2Proof.Statements

/-! ## What a canonical memory lists (R50, R51) -/

/-- A listed entry is what its address reads: no earlier entry has that address. -/
theorem Memory.read_of_mem {m : Memory} (h : m.Pairwise fun c d => c.1 < d.1) {c : Host.Cell} (hc : c ∈ m) :
    m.read c.1 = c.2 := by
  induction m with
  | nil => simp at hc
  | cons d m ih =>
    obtain ⟨hd, hm⟩ := List.pairwise_cons.1 h
    rcases List.mem_cons.1 hc with rfl | hc
    · exact if_pos rfl
    · exact (if_neg (hd c hc).ne).trans (ih hm hc)

/-- An address that does not read as unlisted is listed, with what it reads. -/
theorem Memory.mem_of_read {m : Memory} {a : Nat} (h : m.read a ≠ Memory.unlisted) : (a, m.read a) ∈ m := by
  induction m with
  | nil => exact absurd rfl h
  | cons d m ih =>
    obtain ⟨k, w⟩ := d
    by_cases hk : k = a
    · simp [Memory.read, hk]
    · simp only [Memory.read, if_neg hk] at h ⊢
      exact List.mem_cons_of_mem _ (ih h)

/-- A canonical memory lists no byte that a memory reading alike does not list. -/
theorem Memory.subset_of_read_eq {m n : Memory} (hm : m.wf) (h : ∀ a, a < 65536 → m.read a = n.read a) :
    m ⊆ n := by
  intro c hc
  obtain ⟨rising, entries⟩ := hm
  obtain ⟨hlt, hne⟩ := entries c hc
  have hn : n.read c.1 = c.2 := (h c.1 hlt).symm.trans (Memory.read_of_mem rising hc)
  have listed := Memory.mem_of_read (hn ▸ hne)
  rwa [hn] at listed

/-- Each of two canonical memories that read alike lists what the other lists, and strictly rising lists are in the one
order. -/
theorem Memory.eq_of_read_eq {m n : Memory} (hm : m.wf) (hn : n.wf) (h : ∀ a, a < 65536 → m.read a = n.read a) :
    m = n := by
  have : Std.Irrefl fun c d : Host.Cell => c.1 < d.1 := ⟨fun c => lt_irrefl c.1⟩
  have : Std.Antisymm fun c d : Host.Cell => c.1 < d.1 := ⟨fun _ _ hcd hdc => absurd hcd hdc.asymm⟩
  exact List.Subset.antisymm_of_pairwise hm.1 hn.1 (Memory.subset_of_read_eq hm h)
    (Memory.subset_of_read_eq hn fun a ha => (h a ha).symm)

/-! ## Several writes -/

/-- Writes one after another, each of a byte at its address. -/
def Memory.writeAll (m : Memory) : List (Addr × Byte) → Memory
  | [] => m
  | (a, v) :: l => (m.write a.toNat v).writeAll l

theorem Memory.writeAll_wf (l : List (Addr × Byte)) : ∀ {m : Memory}, m.wf → (m.writeAll l).wf := by
  induction l with
  | nil => exact fun h => h
  | cons c l ih => exact fun h => ih (Memory.write_wf h c.1.isLt c.2)

theorem Memory.read_writeAll_of_notMem {a : Addr} (l : List (Addr × Byte)) :
    ∀ {m : Memory}, a ∉ l.map Prod.fst → (m.writeAll l).read a.toNat = m.read a.toNat := by
  induction l with
  | nil => exact fun _ => rfl
  | cons c l ih =>
    intro m h
    obtain ⟨hc, hl⟩ := not_or.1 (mt List.mem_cons.2 h)
    have other : a.toNat ≠ c.1.toNat := fun e => hc (BitVec.eq_of_toNat_eq e)
    exact (ih hl).trans ((Memory.read_write ..).trans (if_neg other))

/-! ## The writes of each operation that has any -/

section
variable (s : State) (m : MemOperand)

@[simp] theorem opStore_mem (v : Byte) : (opStore m v s).mem = s.mem.write (effectiveAddr s m).toNat v := by
  simp [opStore]

/-- A shift or rotate of memory writes the one byte its operand names (R117). -/
@[simp] theorem opShift_memory_mem (f : Byte → Shifted) :
    (opShift f (.memory m) s).mem =
      s.mem.write (effectiveAddr s m).toNat (f (s.read (effectiveAddr s m))).r := rfl

@[simp] theorem opShift_accumulator_mem (f : Byte → Shifted) : (opShift f .accumulator s).mem = s.mem := rfl

@[simp] theorem opStepMemory_memory_mem (f : Byte → Byte) :
    (opStepMemory f (.memory m) s).mem =
      s.mem.write (effectiveAddr s m).toNat (f (s.read (effectiveAddr s m))) := rfl

theorem State.push16_mem (w : Addr) :
    (s.push16 w).mem =
      (s.mem.write (stackAddr s.sp).toNat (highByte w)).write (stackAddr (s.sp - 1)).toNat (lowByte w) := rfl

/-- BRK's entry writes the frame of R193, from its highest address down. -/
theorem State.takeBrk_mem :
    s.takeBrk.mem =
      (s.push16 (s.pc + 2)).mem.write (stackAddr (s.sp - 2)).toNat s.p.pack := by
  have third : s.sp - 1 - 1 = s.sp - 2 := by bv_omega
  rw [← third]
  rfl

end

/-! ## The writes of an instruction -/

/-- What an instruction does to memory, said once: it writes at the addresses of `writtenAddrs`, in that order. -/
theorem meaning_mem (i : Instr) (s : State) :
    ∃ l, l.map Prod.fst = writtenAddrs i s ∧ (meaning s i.form i.mnemonic).mem = s.mem.writeAll l := by
  cases hmn : i.mnemonic with
  | sta | stx | sty =>
    obtain ⟨m, hf⟩ := form_memory i (by simp [hmn])
    exact ⟨[(effectiveAddr s m, _)], by simp [writtenAddrs, operandAddrs, hmn, hf],
      by rw [hf, meaning, Form.asMem, opStore_mem]; rfl⟩
  | inc | dec =>
    obtain ⟨m, hf⟩ := form_memory i (by simp [hmn])
    exact ⟨[(effectiveAddr s m, _)], by simp [writtenAddrs, operandAddrs, hmn, hf],
      by rw [hf, meaning, Form.asRmw, opStepMemory_memory_mem]; rfl⟩
  | asl | lsr | rol | ror =>
    obtain hf | ⟨m, hf⟩ := form_shift i (by simp [hmn])
    · exact ⟨[], by simp [writtenAddrs, operandAddrs, hmn, hf], by rw [hf]; exact opShift_accumulator_mem s _⟩
    · exact ⟨[(effectiveAddr s m, _)], by simp [writtenAddrs, operandAddrs, hmn, hf],
        by rw [hf, meaning, Form.asRmw, opShift_memory_mem]; rfl⟩
  | pha | php => exact ⟨[(stackAddr s.sp, _)], by simp [writtenAddrs, hmn], State.push_mem s _⟩
  | jsr =>
    exact ⟨[(stackAddr s.sp, _), (stackAddr (s.sp - 1), _)], by simp [writtenAddrs, hmn], State.push16_mem s _⟩
  | brk =>
    refine ⟨[(stackAddr s.sp, highByte (s.pc + 2)), (stackAddr (s.sp - 1), lowByte (s.pc + 2)),
      (stackAddr (s.sp - 2), s.p.pack)], by simp [writtenAddrs, hmn], ?_⟩
    rw [meaning, State.endRunByBrk_mem, State.takeBrk_mem, State.push16_mem]
    rfl
  | _ => exact ⟨[], by simp [writtenAddrs, hmn], by simp [meaning, Memory.writeAll]⟩

theorem State.inv_meaning {s : State} (h : s.Inv) (i : Instr) : (meaning s i.form i.mnemonic).Inv := by
  obtain ⟨l, -, hmem⟩ := meaning_mem i s
  rw [State.Inv, hmem]
  exact Memory.writeAll_wf l h

/-- A step writes memory in its instruction alone: neither a halt nor the sample of halt_req does. -/
theorem State.inv_step {s t : State} (h : s.Inv) (hstep : step s = .next t) : t.Inv := by
  obtain ⟨-, rfl⟩ | ⟨-, -, rfl⟩ | ⟨-, i, -, rfl⟩ := step_cases hstep
  · exact h
  · exact h
  · exact State.inv_congr (State.sampleHaltReq_mem _) (State.inv_meaning h i)

/-! ## The step of a legal opcode byte -/

/-- A running machine whose three fetched bytes decode executes the instruction and samples halt_req (R95). -/
theorem step_of_decode {s : State} {i : Instr} (hr : s.run = .running)
    (hi : decode s.fetch.op s.fetch.b1 s.fetch.b2 = .ok i) :
    step s = .next (meaning s i.form i.mnemonic).sampleHaltReq := by
  simp only [step, hr, cycle, hi, exec_eq, finishStep]

/-- The byte 0x20 is JSR, to the target of the two bytes latched after it (R84). -/
theorem decode_jsr {op : Byte} (h : op = 0x20) (b1 b2 : Byte) : decode op b1 b2 = .ok (.jsr (join b2 b1)) := by
  subst h
  rfl

/-- Where `Push16` leaves the two bytes of a word: the high byte at SP, the low byte below it (R58). -/
theorem State.read_push16_pushed (s : State) (w : Addr) :
    (s.push16 w).read (stackAddr s.sp) = highByte w ∧ (s.push16 w).read (stackAddr (s.sp - 1)) = lowByte w := by
  have apart : stackAddr s.sp ≠ stackAddr (s.sp - 1) := fun h => absurd (stackAddr_inj.1 h) (by bv_omega)
  constructor
  · rw [State.read_push16, if_neg apart, if_pos rfl]
  · rw [State.read_push16, if_pos rfl]

/-! ## Addresses of words and of placed bytes -/

theorem addr_add_one (a : Addr) : a + 1 = BitVec.ofNat 16 ((a.toNat + 1) % 65536) := by
  apply BitVec.eq_of_toNat_eq
  simp

theorem zext16_add_one (z : Byte) : zext16 (z + 1) = BitVec.ofNat 16 ((z.toNat + 1) % 256) := by
  simp [zext16]

theorem stackAddr_add_one (sp : Byte) : stackAddr (sp + 1) = BitVec.ofNat 16 (0x0100 + (sp.toNat + 1) % 256) := by
  apply BitVec.eq_of_toNat_eq
  have one : (1 : Byte).toNat = 1 := rfl
  simp only [stackAddr_toNat, BitVec.toNat_add, BitVec.toNat_ofNat, one]
  omega

/-- Placing bytes writes memory alone: registers, output and run state stay (R75). -/
theorem State.placeBytes_eq (s : State) (a : Addr) (vs : List Byte) :
    s.placeBytes a vs = { s with mem := (s.placeBytes a vs).mem } := by
  apply State.eq_of_fields <;> simp

/-- The bytes of an image that fits are at the addresses from its origin on. -/
theorem State.read_placeBytes_at (s : State) (a : Addr) (vs : List Byte) (fits : a.toNat + vs.length ≤ 65536)
    {k : Nat} (hk : k < vs.length) : (s.placeBytes a vs).read (BitVec.ofNat 16 (a.toNat + k)) = vs[k] := by
  have offset : (BitVec.ofNat 16 (a.toNat + k) - a).toNat = k := by
    simp only [BitVec.toNat_sub, BitVec.toNat_ofNat]
    omega
  rw [State.read_placeBytes vs (by omega), offset]
  simp [hk]

/-- An image that fits leaves every address below its origin and past its end. -/
theorem State.read_placeBytes_outside (s : State) (a b : Addr) (vs : List Byte)
    (fits : a.toNat + vs.length ≤ 65536) (hb : b.toNat < a.toNat ∨ a.toNat + vs.length ≤ b.toNat) :
    (s.placeBytes a vs).read b = s.read b := by
  have beyond : vs.length ≤ (b - a).toNat := by
    rw [BitVec.toNat_sub]
    omega
  rw [State.read_placeBytes vs (by omega), List.getElem?_eq_none beyond, Option.getD_none]

end Sys2Proof.Machine

/-! PROOFS. The obligations of 20_memory.md. -/

namespace Sys2Proof.Proofs

open Sys2Proof.Machine

/-- Settles O55: what an instruction does to memory is a sequence of writes, and each write keeps the canonical form. -/
theorem stepKeepsMemoryCanonical : Obligations.StepKeepsMemoryCanonical :=
  fun _ _ => State.inv_step

/-- Settles O37: the target is decoded from the latch, before the pushes; they may overwrite the bytes it came from. -/
theorem jsrJumpsToTheLatchedTarget : Obligations.JsrJumpsToTheLatchedTarget := by
  intro s hr hop
  obtain ⟨high, low⟩ := State.read_push16_pushed s (s.pc + 2)
  exact ⟨_, step_of_decode hr (decode_jsr hop _ _), State.sampleHaltReq_pc _,
    (State.read_sampleHaltReq _ _).trans high, (State.read_sampleHaltReq _ _).trans low⟩

/-- Settles O44: each read joins the byte at its address and the one at the next, in 16 bits or in 8. -/
theorem wordReadsAreLittleEndianAndWrap : Obligations.WordReadsAreLittleEndianAndWrap := by
  intro s a z
  constructor
  · rw [State.read16, join_toNat, addr_add_one]
    omega
  · rw [State.readZP16, join_toNat, zext16_add_one, zext16]
    omega

/-- Settles O45: a pull after a push comes back to the SP that was pushed at, whatever SP is. -/
theorem stackStaysInPageOneAndWraps : Obligations.StackStaysInPageOneAndWraps := by
  intro s v
  have back : s.sp - 1 + 1 = s.sp := by bv_omega
  refine ⟨stackAddr_toNat s.sp, ?_, ?_, fun a ha => ?_, ?_, ?_, ?_, back⟩
  · rw [State.push_sp, BitVec.toNat_sub, Nat.add_comm]
    rfl
  · rw [State.read_push, if_pos rfl]
  · rw [State.read_push, if_neg ha]
  · rw [State.pull_snd_sp, BitVec.toNat_add]
    rfl
  · rw [State.pull_fst, stackAddr_add_one]
  · rw [State.pull_fst, State.push_sp, back, State.read_push, if_pos rfl]

/-- Settles O47: an instruction writes at its `writtenAddrs` and nowhere else; with none, it makes no write. -/
theorem memoryChangesOnlyWhereStored : Obligations.MemoryChangesOnlyWhereStored := by
  intro i s t h
  obtain rfl := eq_meaning_of_exec h
  obtain ⟨l, haddrs, hmem⟩ := meaning_mem i s
  rw [← haddrs]
  constructor
  · intro a ha
    rw [State.read, hmem, Memory.read_writeAll_of_notMem l ha, State.read]
  · intro hnone
    obtain rfl := List.map_eq_nil_iff.1 hnone
    exact hmem

/-- Settles O54: a canonical memory lists, in rising order, exactly the bytes it reads that are not 0. -/
theorem canonicalMemoriesThatReadAlikeAreEqual : Obligations.CanonicalMemoriesThatReadAlikeAreEqual :=
  fun _ _ => Memory.eq_of_read_eq

/-- Settles O58: LOAD decides first whether the image fits, and places its bytes only if it does. -/
theorem loadCopiesTheImageOrRefusesIt : Obligations.LoadCopiesTheImageOrRefusesIt := by
  intro s bytes origin
  constructor
  · intro beyond
    exact if_neg (by simpa [loadFits] using beyond)
  · intro fits
    exact ⟨_, if_pos (by simpa [loadFits] using fits), State.placeBytes_eq s origin bytes,
      fun k hk => State.read_placeBytes_at s origin bytes fits hk,
      fun a ha => State.read_placeBytes_outside s origin a bytes fits ha⟩

/-- Settles O56: a newly constructed machine lists no byte of memory. -/
theorem constructedMemoryIsCanonical : Obligations.ConstructedMemoryIsCanonical :=
  ⟨fun _ _ _ _ => Memory.nil_wf, Memory.nil_wf⟩

end Sys2Proof.Proofs

/-! SUPPORT. The opcode map by the rows of its grid (30_encoding.md R87): the row that an opcode byte is in is all the
decoder has to search for it, and the bytes without a row are the illegal ones of R88. -/

namespace Sys2Proof.Laws

open Sys2Proof.Statements

theorem lookupOpcode_append (op : Byte) (l m : List (Byte × MapCell)) :
    lookupOpcode op (l ++ m) = (lookupOpcode op l).or (lookupOpcode op m) := by
  induction l with
  | nil => rfl
  | cons row l ih =>
    simp only [List.cons_append, lookupOpcode]
    split
    · rfl
    · exact ih

theorem lookupOpcode_eq_none {op : Byte} {l : List (Byte × MapCell)} (h : ∀ row ∈ l, row.1 ≠ op) :
    lookupOpcode op l = none := by
  cases hl : lookupOpcode op l with
  | none => rfl
  | some cell => exact absurd rfl (h _ (mem_of_lookupOpcode hl))

/-- In a table cut into parts, if a byte can only be in the part of number `d`, looking it up there is enough. -/
theorem lookupOpcode_flatten {op : Byte} {parts : List (List (Byte × MapCell))} {d : Nat} (hd : d < parts.length)
    (h : ∀ k < parts.length, ∀ row ∈ parts.getD k [], row.1 = op → k = d) :
    lookupOpcode op parts.flatten = lookupOpcode op (parts.getD d []) := by
  induction parts generalizing d with
  | nil => simp at hd
  | cons part parts ih =>
    rw [List.flatten_cons, lookupOpcode_append]
    cases d with
    | zero =>
      have later : lookupOpcode op parts.flatten = none := by
        refine lookupOpcode_eq_none fun row hrow hop => ?_
        obtain ⟨p, hp, hrow⟩ := List.mem_flatten.1 hrow
        obtain ⟨k, hk, rfl⟩ := List.mem_iff_getElem.1 hp
        exact absurd (h (k + 1) (by simpa using hk) row (by simpa [hk] using hrow) hop) (by simp)
      simp [later]
    | succ d =>
      have here : lookupOpcode op part = none :=
        lookupOpcode_eq_none fun row hrow hop => absurd (h 0 (by simp) row hrow hop) (by simp)
      rw [here, Option.none_or]
      exact ih (by simpa using hd) fun k hk row hrow hop =>
        Nat.succ_inj.1 (h (k + 1) (by simpa using hk) row hrow hop)

/-- The sixteen rows of the grid of R87, by the high digit of the opcode byte. -/
def gridRows : List (List (Byte × MapCell)) :=
  [ mapRow0, mapRow1, mapRow2, mapRow3, mapRow4, mapRow5, mapRow6, mapRow7,
    mapRow8, mapRow9, mapRowA, mapRowB, mapRowC, mapRowD, mapRowE, mapRowF ]

theorem opcodeMap_eq_flatten : opcodeMap = gridRows.flatten := by
  simp only [opcodeMap, gridRows, List.flatten_cons, List.flatten_nil, List.append_assoc, List.append_nil]

theorem gridRows_digit : ∀ d < 16, ∀ row ∈ gridRows.getD d [], row.1.toNat / 16 = d := by
  decide +kernel

/-- A byte is looked up in its own row of the grid. -/
theorem lookupOpcode_opcodeMap (op : Byte) :
    lookupOpcode op opcodeMap = lookupOpcode op (gridRows.getD (op.toNat / 16) []) := by
  have lt := op.isLt
  rw [opcodeMap_eq_flatten]
  exact lookupOpcode_flatten (by simp [gridRows]; omega) fun d hd row hrow hop =>
    by rw [← hop, gridRows_digit d hd row hrow]

theorem lookupOpcode_eq_none_iff (op : Byte) : lookupOpcode op opcodeMap = none ↔ op ∈ illegalBytes := by
  rw [lookupOpcode_opcodeMap, ← Option.isNone_iff_eq_none]
  revert op
  decide +kernel

/-! ## `Decode(op)` (R93) -/

/-- `Decode(op)` is the mnemonic and the mode of what the byte's row builds, whatever the operand bytes. -/
theorem decodeOpcode_of_lookup {op : Byte} {cell : MapCell} (h : lookupOpcode op opcodeMap = some cell)
    (b1 b2 : Byte) : decodeOpcode op = some ((cell.build b1 b2).mnemonic, (cell.build b1 b2).mode) := by
  obtain ⟨-, -, -, mnemonic, mode⟩ := opcodeMap_agrees _ (mem_of_lookupOpcode h) b1 b2
  simp only [decodeOpcode, decode, h, mnemonic, mode]

theorem decodeOpcode_eq_none {op : Byte} (h : lookupOpcode op opcodeMap = none) : decodeOpcode op = none := by
  simp only [decodeOpcode, decode, h]

theorem isSome_decodeOpcode (op : Byte) : (decodeOpcode op).isSome = (lookupOpcode op opcodeMap).isSome := by
  cases h : lookupOpcode op opcodeMap with
  | none => rw [decodeOpcode_eq_none h]; rfl
  | some cell => rw [decodeOpcode_of_lookup h 0 0]; rfl

theorem legalBytes_count :
    ((List.range 256).filter fun n => (decodeOpcode (BitVec.ofNat 8 n)).isSome).length = 151 := by
  simp only [isSome_decodeOpcode, lookupOpcode_opcodeMap]
  decide +kernel

end Sys2Proof.Laws

/-! SUPPORT. The decoder against the encoder: what bytes that decode are, what each well-formed instruction is decoded
from, and how long an encoding is (30_encoding.md R80 to R86). -/

namespace Sys2Proof.Laws

open Sys2Proof.Machine

/-- Bytes that decode are the opcode byte of a row and the operand bytes its cell takes, then the bytes left over. -/
theorem eq_of_decodeBytes {bytes rest : List Byte} {i : Instr} (h : decodeBytes bytes = .ok (i, rest)) :
    ∃ op cell b1 b2, lookupOpcode op opcodeMap = some cell ∧ i = cell.build b1 b2 ∧
      bytes = op :: (operandBytes cell b1 b2 ++ rest) := by
  unfold decodeBytes at h
  split at h
  case h_1 => cases h
  case h_2 op tail =>
    split at h
    case h_2 i hl => cases h; exact ⟨op, _, 0, 0, hl, rfl, rfl⟩
    case h_3 f b1 tail hl => cases h; exact ⟨op, _, b1, 0, hl, rfl, rfl⟩
    case h_4 f b1 tail hl => cases h; exact ⟨op, _, b1, 0, hl, rfl, rfl⟩
    case h_5 f b1 b2 tail hl => cases h; exact ⟨op, _, b1, b2, hl, rfl, rfl⟩
    all_goals cases h

/-- The opcode byte of a row and the operand bytes its cell takes decode to what the cell builds of them. -/
theorem decodeBytes_of_lookup {op : Byte} {cell : MapCell} (h : lookupOpcode op opcodeMap = some cell)
    (b1 b2 : Byte) (rest : List Byte) :
    decodeBytes (op :: (operandBytes cell b1 b2 ++ rest)) = .ok (cell.build b1 b2, rest) := by
  cases cell <;> simp [decodeBytes, h, operandBytes, MapCell.build]

/-- What a row builds is well-formed and encodes to the bytes it is built from. -/
theorem encode_build {op : Byte} {cell : MapCell} (h : lookupOpcode op opcodeMap = some cell) (b1 b2 : Byte) :
    (cell.build b1 b2).wellFormed = true ∧ encode (cell.build b1 b2) = op :: operandBytes cell b1 b2 := by
  obtain ⟨wf, opcode, operand, -, -⟩ := opcodeMap_agrees _ (mem_of_lookupOpcode h) b1 b2
  exact ⟨wf, by rw [encode, opcode, operand]⟩

theorem wellFormed_of_decode {op b1 b2 : Byte} {i : Instr} (h : decode op b1 b2 = .ok i) : i.wellFormed = true := by
  obtain ⟨cell, -, hl, hok⟩ | ⟨-, herr⟩ := decode_cases op b1 b2
  · obtain rfl := Except.ok.inj (hok.symm.trans h)
    exact (encode_build hl b1 b2).1
  · exact absurd (herr.symm.trans h) (by simp)

theorem offset_range_of_wellFormed {i : Instr} {k : Int} (hf : i.form = .relative k) (h : i.wellFormed = true) :
    -128 ≤ k ∧ k ≤ 127 := by
  simpa [Instr.wellFormed, hf, Form.wellFormed] using h

/-- A well-formed instruction is what the row of its opcode byte builds of its own operand bytes: a branch because its
offset comes back from its byte, every other one because a word comes back from its two bytes. -/
theorem build_operand_bytes (i : Instr) (h : i.wellFormed = true) :
    ∃ cell, lookupOpcode i.opcode opcodeMap = some cell ∧
      cell.build (i.form.bytes.getD 0 0) (i.form.bytes.getD 1 0) = i := by
  cases i with
  | bpl k | bmi k | bvc k | bvs k | bcc k | bcs k | bne k | beq k =>
    obtain ⟨low, high⟩ := offset_range_of_wellFormed rfl h
    rw [Instr.opcode]
    refine ⟨_, (lookupOpcode_opcodeMap _).trans rfl, ?_⟩
    exact congrArg _ (signed8_offsetByte low high)
  | _ =>
    rw [Instr.opcode]
    refine ⟨_, (lookupOpcode_opcodeMap _).trans rfl, ?_⟩
    simp [MapCell.build, Instr.form, Instr.parts, Form.bytes, MemOperand.bytes]

end Sys2Proof.Laws

namespace Sys2Proof

/-! ## Lengths (R82, R83) -/

theorem Form.length_bytes (f : Form) : f.bytes.length + 1 = f.mode.length := by
  cases f with
  | memory m => cases m <;> rfl
  | _ => rfl

theorem length_encode (i : Instr) : (encode i).length = i.length := i.form.length_bytes

theorem Mode.length_eq_one : ∀ m ∈ [Mode.implied, .accumulator], m.length = 1 := by decide

theorem Mode.length_eq_two :
    ∀ m ∈ [Mode.immediate, .zeroPage, .zeroPageX, .zeroPageY, .relative, .indexedIndirect, .indirectIndexed],
      m.length = 2 := by decide

theorem Mode.length_eq_three : ∀ m ∈ [Mode.absolute, .absoluteX, .absoluteY, .indirect], m.length = 3 := by decide

end Sys2Proof

/-! SUPPORT. PC after an instruction that does not write it (30_encoding.md R97), and a step as R95 has it. -/

namespace Sys2Proof.Machine

open Sys2Proof.Statements

@[simp] theorem opStore_pc (s : State) (m : MemOperand) (v : Byte) :
    (opStore m v s).pc = s.pc + BitVec.ofNat 16 m.mode.length := by
  simp [opStore]

theorem branchIf_pc_of_not {c : Bool} (h : c = false) (k : Int) (s : State) : (branchIf c k s).pc = s.pc + 2 := by
  subst h
  rfl

/-- A branch that is not taken passes itself; whether the print port is stored to has no part in a store's PC; and every
other instruction ends in an `Advance` by its length. -/
theorem meaning_pc (i : Instr) (s : State) (hm : i.mnemonic ∉ [.jmp, .jsr, .rts, .rti, .brk])
    (hb : branchTaken s.p i.mnemonic = false) : (meaning s i.form i.mnemonic).pc = pcAfter i s := by
  cases i with
  | jmpAbsolute | jmpIndirect | jsr | rts | rti | brk => simp [Instr.mnemonic, Instr.parts] at hm
  | bpl k | bmi k | bvc k | bvs k | bcc k | bcs k | bne k | beq k => exact branchIf_pc_of_not hb k s
  | staZeroPage | staZeroPageX | staAbsolute | staAbsoluteX | staAbsoluteY | staIndexedIndirect | staIndirectIndexed
  | stxZeroPage | stxZeroPageY | stxAbsolute | styZeroPage | styZeroPageX | styAbsolute => exact opStore_pc s _ _
  | _ => rfl

/-- The sample of halt_req as one record: it touches the run state alone, and only a run that has not ended (R213). -/
theorem State.sampleHaltReq_eq (s : State) :
    s.sampleHaltReq = if s.run = .running ∧ s.haltReq = true then { s with run := .halted .cancelled } else s := by
  by_cases hr : s.run = .running <;> cases hq : s.haltReq <;> simp [State.sampleHaltReq, State.halt, hr, hq]

/-- A running machine whose three fetched bytes are no instruction halts with IllegalOpcode (R95, R201). -/
theorem step_of_reject {s : State} {e : DecodeReject} (hr : s.run = .running)
    (he : decode s.fetch.op s.fetch.b1 s.fetch.b2 = .error e) :
    step s = .next (s.raiseIllegalOpcode s.fetch.op) := by
  simp only [step, hr, cycle, he]

theorem stepReport_of_running {s : State} (hr : s.run = .running) (t : State) :
    stepReport s t = .executed s.fetch.op t.registers := by
  simp only [stepReport, hr]

end Sys2Proof.Machine

/-! PROOFS. The obligations of 30_encoding.md. -/

namespace Sys2Proof.Proofs

open Sys2Proof.Laws Sys2Proof.Machine Sys2Proof.Statements

/-- Settles O40: the row of the opcode byte builds the instruction of its operand bytes, so these are the encoding, and
they decode to what the row builds. -/
theorem decodeOfEncodeIsTheInstruction : Obligations.DecodeOfEncodeIsTheInstruction := by
  intro i rest wf
  obtain ⟨cell, hl, hi⟩ := build_operand_bytes i wf
  obtain ⟨-, bytes⟩ := encode_build hl (i.form.bytes.getD 0 0) (i.form.bytes.getD 1 0)
  have decoded := decodeBytes_of_lookup hl (i.form.bytes.getD 0 0) (i.form.bytes.getD 1 0) rest
  rwa [← List.cons_append, ← bytes, hi] at decoded

/-- Settles O41: a row of the opcode map agrees with the encoder on whatever it builds. -/
theorem encodeOfDecodeIsTheBytes : Obligations.EncodeOfDecodeIsTheBytes := by
  intro bytes rest i h
  obtain ⟨op, cell, b1, b2, hl, rfl, rfl⟩ := eq_of_decodeBytes h
  obtain ⟨wf, encoded⟩ := encode_build hl b1 b2
  exact ⟨wf, by rw [encoded, List.cons_append]⟩

/-- Settles O38: a byte has a row, which builds instructions of one mnemonic and mode, or it is on the list of R88. -/
theorem decodeReadsOnlyTheOpcode : Obligations.DecodeReadsOnlyTheOpcode := by
  refine ⟨fun op b1 b2 => ?_, legalBytes_count⟩
  obtain ⟨cell, -, hl, hok⟩ | ⟨hl, herr⟩ := decode_cases op b1 b2
  · exact .inl ⟨_, hok, decodeOpcode_of_lookup hl b1 b2⟩
  · exact .inr ⟨herr, decodeOpcode_eq_none hl, (lookupOpcode_eq_none_iff op).1 hl⟩

/-- Settles O39: the bytes consumed are the encoding (O41), which is as long as the mode says. -/
theorem decodeTakesTheLengthOfTheMode : Obligations.DecodeTakesTheLengthOfTheMode := by
  intro bytes rest i h
  obtain ⟨-, rfl⟩ := encodeOfDecodeIsTheBytes bytes rest i h
  have taken : (encode i ++ rest).length = rest.length + i.mode.length := by
    rw [List.length_append, length_encode, Nat.add_comm, Instr.length]
  exact ⟨taken, fun h1 => by rw [taken, Mode.length_eq_one _ h1], fun h2 => by rw [taken, Mode.length_eq_two _ h2],
    fun h3 => by rw [taken, Mode.length_eq_three _ h3]⟩

/-- Settles O50: such an instruction ends with PC past itself, and its mode says how far that is. -/
theorem otherInstructionsAdvanceByTheirLength : Obligations.OtherInstructionsAdvanceByTheirLength := by
  intro i s t h hm hb
  obtain rfl := eq_meaning_of_exec h
  have past := meaning_pc i s hm hb
  have advanced {n : Nat} (hn : i.mode.length = n) :
      (meaning s i.form i.mnemonic).pc = s.pc + BitVec.ofNat 16 n := by
    rw [past, pcAfter, Instr.length, hn]
  exact ⟨past, fun h1 => advanced (Mode.length_eq_one _ h1), fun h2 => advanced (Mode.length_eq_two _ h2),
    fun h3 => advanced (Mode.length_eq_three _ (List.mem_append_left [Mode.indirect] h3))⟩

/-- Settles O30: the two outcomes of `decode` on the latch give the two outcomes of the step. -/
theorem stepRunsTheDecodedInstruction : Obligations.StepRunsTheDecodedInstruction := by
  intro s hr
  refine ⟨fun i hi => ⟨wellFormed_of_decode hi, _, exec_eq i s, ?_⟩, fun e => step_of_reject hr,
    fun t _ => stepReport_of_running hr t⟩
  rw [step_of_decode hr hi, State.sampleHaltReq_eq]

/-- Settles O42: each word is a closed evaluation of the decoder. -/
theorem writtenOutWordsDecode : Obligations.WrittenOutWordsDecode := by
  and_intros <;> rfl

end Sys2Proof.Proofs

/-! SUPPORT. The sums of the addressing modes as numbers (40_addressing_modes.md R104 to R112): with an index, within
page zero or over 16 bits, and from a pointer in page zero. -/

namespace Sys2Proof

@[simp] theorem zext16_toNat (v : Byte) : (zext16 v).toNat = v.toNat := by
  rw [zext16, BitVec.toNat_ofNat]
  omega

/-- An indexed zero-page sum drops its carry, so it stays in page zero (R105). -/
theorem zext16_add_toNat (b v : Byte) : (zext16 (b + v)).toNat = (b.toNat + v.toNat) % 256 := by
  rw [zext16_toNat, BitVec.toNat_add]

/-- A 16-bit indexed sum carries into the high byte and wraps past 0xFFFF (R108). -/
theorem add_zext16_toNat (w : Addr) (v : Byte) : (w + zext16 v).toNat = (w.toNat + v.toNat) % 65536 := by
  rw [BitVec.toNat_add, zext16_toNat]

end Sys2Proof

namespace Sys2Proof.Machine

theorem join_add_zext16_toNat (hi lo v : Byte) :
    (join hi lo + zext16 v).toNat = (hi.toNat * 256 + lo.toNat + v.toNat) % 65536 := by
  rw [add_zext16_toNat, join_toNat]

/-- The pointer of R54: both its bytes come from page zero. -/
theorem State.readZP16_toNat (s : State) (z : Byte) :
    (s.readZP16 z).toNat =
      (s.read (BitVec.ofNat 16 z.toNat)).toNat + 256 * (s.read (BitVec.ofNat 16 ((z.toNat + 1) % 256))).toNat :=
  (Proofs.wordReadsAreLittleEndianAndWrap s 0 z).2

/-- A pointer found by an indexed zero-page sum: the index and the step to the high byte wrap in one sum (R111). -/
theorem State.readZP16_add_toNat (s : State) (b v : Byte) :
    (s.readZP16 (b + v)).toNat =
      (s.read (BitVec.ofNat 16 ((b.toNat + v.toNat) % 256))).toNat +
        256 * (s.read (BitVec.ofNat 16 ((b.toNat + v.toNat + 1) % 256))).toNat := by
  rw [State.readZP16_toNat, BitVec.toNat_add, Nat.mod_add_mod]

end Sys2Proof.Machine

/-! PROOFS. The obligations of 40_addressing_modes.md. -/

namespace Sys2Proof.Proofs

open Sys2Proof.Machine

/-- Settles O43: each mode's address is one of the sums above, in the width its rule names. -/
theorem effectiveAddressesWrapAsTheirModeSays : Obligations.EffectiveAddressesWrapAsTheirModeSays := by
  refine ⟨fun s b1 b2 => ⟨?zeroPage, ?zeroPageX, ?zeroPageY, ?absolute, ?absoluteX, ?absoluteY, ?indexedIndirect,
    ?indirectIndexed⟩, fun mode h => ?twoBytes, fun mode h => ?threeBytes⟩
  case zeroPage => exact zext16_toNat b1
  case zeroPageX => exact zext16_add_toNat b1 s.x
  case zeroPageY => exact zext16_add_toNat b1 s.y
  case absolute => exact join_toNat b2 b1
  case absoluteX => exact join_add_zext16_toNat b2 b1 s.x
  case absoluteY => exact join_add_zext16_toNat b2 b1 s.y
  case indexedIndirect => exact s.readZP16_add_toNat b1 s.x
  case indirectIndexed => rw [effectiveAddr, add_zext16_toNat, State.readZP16_toNat]
  case twoBytes =>
    have among : [Mode.zeroPage, .zeroPageX, .zeroPageY, .indexedIndirect, .indirectIndexed] ⊆
        [.immediate, .zeroPage, .zeroPageX, .zeroPageY, .relative, .indexedIndirect, .indirectIndexed] := by decide
    exact Mode.length_eq_two mode (among h)
  case threeBytes => exact Mode.length_eq_three mode (List.mem_append_left [Mode.indirect] h)

end Sys2Proof.Proofs

/-! SUPPORT. The forms of a mnemonic: all the rows of the opcode map (30_encoding.md R87) that build it. -/

namespace Sys2Proof.Laws

open Sys2Proof.Statements

theorem opcodeMap_nodup : (opcodeMap.map Prod.fst).Nodup := by
  decide +kernel

theorem lookupOpcode_of_mem {op : Byte} {cell : MapCell} {rows : List (Byte × MapCell)}
    (nodup : (rows.map Prod.fst).Nodup) (h : (op, cell) ∈ rows) : lookupOpcode op rows = some cell := by
  induction rows with
  | nil => cases h
  | cons row rows ih =>
    rw [List.map_cons, List.nodup_cons] at nodup
    obtain ⟨fresh, nodup⟩ := nodup
    obtain rfl | h := List.mem_cons.1 h
    · exact if_pos rfl
    · have later : row.1 ≠ op := fun he => fresh (he ▸ List.mem_map_of_mem h)
      exact (if_neg later).trans (ih nodup h)

/-- No byte has two rows, so looking a byte up finds any row it has. -/
theorem lookupOpcode_eq_some_iff {op : Byte} {cell : MapCell} :
    lookupOpcode op opcodeMap = some cell ↔ (op, cell) ∈ opcodeMap :=
  ⟨mem_of_lookupOpcode, lookupOpcode_of_mem opcodeMap_nodup⟩

theorem decodeOpcode_eq_some_iff {op : Byte} {mn : Mnemonic} {mode : Mode} :
    decodeOpcode op = some (mn, mode) ↔
      ∃ cell, (op, cell) ∈ opcodeMap ∧ (cell.build 0 0).mnemonic = mn ∧ (cell.build 0 0).mode = mode := by
  simp only [← lookupOpcode_eq_some_iff]
  cases hl : lookupOpcode op opcodeMap with
  | none => simp [decodeOpcode_eq_none hl]
  | some cell => simp [decodeOpcode_of_lookup hl 0 0]

/-- The modes of a mnemonic with their opcode bytes, in the order of the opcode map. -/
def formsOf (mn : Mnemonic) : List (Mode × Byte) :=
  (opcodeMap.filter fun row => (row.2.build 0 0).mnemonic = mn).map fun row => ((row.2.build 0 0).mode, row.1)

theorem forms_formsOf (mn : Mnemonic) : Forms mn (formsOf mn) := by
  intro op mode
  rw [decodeOpcode_eq_some_iff]
  simp [formsOf, and_assoc]

/-- A list of forms is right if it lists those of the opcode map in any order. -/
theorem forms_of_perm {mn : Mnemonic} {l : List (Mode × Byte)} (h : (formsOf mn).Perm l) : Forms mn l :=
  fun op mode => (forms_formsOf mn op mode).trans h.mem_iff

end Sys2Proof.Laws

/-! SUPPORT. The whole next state where a register takes a value, N and Z follow it and PC advances. -/

namespace Sys2Proof.Machine

open Sys2Proof.Statements

/-- PC past an instruction is PC past its form. -/
theorem pcAfter_of_parts {i : Instr} {mn : Mnemonic} {f : Form} (h : i.parts = (mn, f)) (s : State) :
    pcAfter i s = s.pc + BitVec.ofNat 16 f.mode.length := by
  rw [pcAfter, length_of_parts h]

section
variable (s : State) (v : Byte) (n : Nat)

theorem State.advance_loadA :
    (s.loadA v).advance n = { s with a := v, p := nz s.p v, pc := s.pc + BitVec.ofNat 16 n } := rfl

theorem State.advance_loadX :
    (s.loadX v).advance n = { s with x := v, p := nz s.p v, pc := s.pc + BitVec.ofNat 16 n } := rfl

theorem State.advance_loadY :
    (s.loadY v).advance n = { s with y := v, p := nz s.p v, pc := s.pc + BitVec.ofNat 16 n } := rfl

end

end Sys2Proof.Machine

/-! PROOFS. The obligations of 41_load_transfer.md. -/

namespace Sys2Proof.Proofs

open Sys2Proof.Laws Sys2Proof.Machine Sys2Proof.Statements

/-- Settles O1: the forms are the map's rows, and in each of them the load is one operation on its operand. -/
theorem loadsFillTheirRegister : Obligations.LoadsFillTheirRegister := by
  refine ⟨forms_of_perm (by decide +kernel), forms_of_perm (by decide +kernel), forms_of_perm (by decide +kernel),
    fun i o s => ⟨fun h => ?lda, fun h => ?ldx, fun h => ?ldy⟩⟩
  case lda => rw [exec_lda h, opLda, State.advance_loadA, pcAfter_of_parts h]
  case ldx => rw [exec_ldx h, opLdx, State.advance_loadX, pcAfter_of_parts h]
  case ldy => rw [exec_ldy h, opLdy, State.advance_loadY, pcAfter_of_parts h]

/-- Settles O2: a transfer loads the register it copies from into the other one; TXS moves X to SP and PC on by one
byte, no more. -/
theorem transfersCopyTheirRegister : Obligations.TransfersCopyTheirRegister := by
  refine ⟨forms_of_perm (by decide +kernel), forms_of_perm (by decide +kernel), forms_of_perm (by decide +kernel),
    forms_of_perm (by decide +kernel), forms_of_perm (by decide +kernel), forms_of_perm (by decide +kernel),
    fun s => ⟨?tax, ?tay, ?txa, ?tya, ?tsx, ?txs⟩⟩
  case tax => exact congrArg Host.Outcome.next (s.advance_loadX s.a 1)
  case tay => exact congrArg Host.Outcome.next (s.advance_loadY s.a 1)
  case txa => exact congrArg Host.Outcome.next (s.advance_loadA s.x 1)
  case tya => exact congrArg Host.Outcome.next (s.advance_loadA s.y 1)
  case tsx => exact congrArg Host.Outcome.next (s.advance_loadX s.sp 1)
  case txs => rfl

end Sys2Proof.Proofs

/-! SUPPORT. What `StoreByte` emits (42_store.md R130, R131), and which instructions store through it. -/

namespace Sys2Proof.Machine

open Sys2Proof.Statements

section
variable (s : State)

/-- A store is emitted at exactly PRINT_PORT (R131). -/
@[simp] theorem State.storeByte_out (ea : Addr) (v : Byte) :
    (s.storeByte ea v).out = if s.config.printPort = some ea then s.out ++ [v] else s.out := by
  unfold State.storeByte
  dsimp only
  split <;> rfl

@[simp] theorem opStore_out (m : MemOperand) (v : Byte) :
    (opStore m v s).out = if s.config.printPort = some (effectiveAddr s m) then s.out ++ [v] else s.out := by
  simp [opStore]

theorem opStore_read (m : MemOperand) (v : Byte) (a : Addr) :
    (opStore m v s).read a = if a = effectiveAddr s m then v else s.read a := by
  rw [opStore, State.read_advance, State.read_storeByte]

/-- A store as one record: everything it changes. -/
theorem opStore_eq (m : MemOperand) (v : Byte) :
    opStore m v s = { s with
      mem := (opStore m v s).mem
      out := if s.config.printPort = some (effectiveAddr s m) then s.out ++ [v] else s.out
      pc := s.pc + BitVec.ofNat 16 m.mode.length } := by
  apply State.eq_of_fields <;> simp

end

/-- An instruction that is the store of `v` at its memory operand leaves what R130 and R131 say. -/
theorem storeLeaves_of_exec {i : Instr} {mn : Mnemonic} {m : MemOperand} {s : State} {v : Byte}
    (hparts : i.parts = (mn, .memory m)) (hexec : exec i s = .next (opStore m v s)) : StoreLeaves i m s v := by
  refine ⟨_, hexec, ?_, ?_, fun a ha => ?_⟩
  · rw [pcAfter_of_parts hparts]
    exact opStore_eq s m v
  · rw [opStore_read, if_pos rfl]
  · rw [opStore_read, if_neg ha]

/-- No instruction but a store touches the output: not a read-modify-write, not a push. -/
theorem meaning_out (s : State) (f : Form) {mn : Mnemonic} (h : mn ∉ [.sta, .stx, .sty]) :
    (meaning s f mn).out = s.out := by
  cases mn with
  | sta | stx | sty => simp at h
  | _ => simp [meaning]

theorem storeOf_eq_none {i : Instr} (h : i.mnemonic ∉ [.sta, .stx, .sty]) (s : State) : storeOf i s = none := by
  unfold storeOf
  split
  · split <;> simp_all
  · rfl

/-- `storeOf` names the byte and the address of the instruction's one store; of any other instruction it names none. -/
theorem storeOf_cases (i : Instr) (s : State) :
    (i.mnemonic ∉ [.sta, .stx, .sty] ∧ storeOf i s = none) ∨
    ∃ m v, meaning s i.form i.mnemonic = opStore m v s ∧ storeOf i s = some (effectiveAddr s m, v) := by
  cases hmn : i.mnemonic with
  | sta | stx | sty =>
    obtain ⟨m, hf⟩ := form_memory i (by simp [hmn])
    exact .inr ⟨m, _, by rw [hf]; rfl, by simp only [storeOf, hf, hmn]⟩
  | _ => exact .inl ⟨by simp, storeOf_eq_none (by simp [hmn]) s⟩

end Sys2Proof.Machine

/-! PROOFS. The obligations of 42_store.md. -/

namespace Sys2Proof.Proofs

open Sys2Proof.Laws Sys2Proof.Machine Sys2Proof.Statements

/-- Settles O3: the forms are the map's rows, and in each of them the instruction is one store of its register. -/
theorem storesWriteOneByte : Obligations.StoresWriteOneByte := by
  refine ⟨forms_of_perm (by decide +kernel), forms_of_perm (by decide +kernel), forms_of_perm (by decide +kernel),
    fun i m s => ⟨fun h => ?sta, fun h => ?stx, fun h => ?sty⟩⟩
  case sta => exact storeLeaves_of_exec h (exec_sta h s)
  case stx => exact storeLeaves_of_exec h (exec_stx h s)
  case sty => exact storeLeaves_of_exec h (exec_sty h s)

/-- Settles O4: an instruction is the store that `storeOf` names, which emits at exactly PRINT_PORT, or it is no Store
and leaves the output. -/
theorem onlyStoresFireThePrintPort : Obligations.OnlyStoresFireThePrintPort := by
  intro i s t h
  obtain rfl := eq_meaning_of_exec h
  obtain ⟨hmn, hnone⟩ | ⟨m, v, hstore, hsome⟩ := storeOf_cases i s
  · rw [hnone, meaning_out s _ hmn, List.append_nil]
  · rw [hstore, hsome, opStore_out]
    dsimp only
    split
    · rfl
    · exact (List.append_nil _).symm

end Sys2Proof.Proofs

/-! SUPPORT. The adder (43_arithmetic_logic.md R135) as arithmetic, on the operand and on its complement (R137), and the
whole next state where A takes a sum. -/

namespace Sys2Proof

/-- Bit 7 is the sign (R8). -/
theorem getLsbD_seven_eq_neg (v : Byte) : v.getLsbD 7 = decide (v.toInt < 0) := by
  rw [← BitVec.msb_eq_toInt, BitVec.msb_eq_getLsbD_last]

theorem complement_toNat (v : Byte) : (v ^^^ 0xFF).toNat = 255 - v.toNat := by
  rw [show v ^^^ 0xFF = ~~~v from BitVec.xor_allOnes, BitVec.toNat_not]

end Sys2Proof

namespace Sys2Proof.Machine

open Sys2Proof.Statements

theorem complement_toInt (v : Byte) : (v ^^^ 0xFF).toInt = -1 - v.toInt := by
  simp only [← signed8_eq_toInt, signed8, complement_toNat]
  split <;> split <;> omega

section
variable (a m : Byte) (cin : Bool)

theorem addWithCarry_r_toNat : (addWithCarry a m cin).r.toNat = (a.toNat + m.toNat + cin.toNat) % 256 :=
  BitVec.toNat_ofNat _ 8

theorem addWithCarry_carry : (addWithCarry a m cin).carry = decide (255 < a.toNat + m.toNat + cin.toNat) := rfl

theorem addWithCarry_overflow : (addWithCarry a m cin).overflow =
    decide (a.toInt + m.toInt + cin.toNat < -128 ∨ 127 < a.toInt + m.toInt + cin.toNat) := by
  simp only [addWithCarry, signed8_eq_toInt, Bool.decide_or]

/-- The sum has the residue of the signed sum too. -/
theorem addWithCarry_r_toInt :
    (addWithCarry a m cin).r.toInt = (a.toInt + m.toInt + cin.toNat).bmod 256 := by
  simp only [← signed8_eq_toInt, signed8, addWithCarry_r_toNat, Int.bmod_def]
  omega

/-- The signed sum is out of range exactly when the narrowed sum has the sign of neither summand. -/
theorem addWithCarry_overflow_iff_signs : (addWithCarry a m cin).overflow = true ↔
    ¬ (a.toInt < 0 ↔ (addWithCarry a m cin).r.toInt < 0) ∧ ¬ (m.toInt < 0 ↔ (addWithCarry a m cin).r.toInt < 0) := by
  have ha := signed8_range a
  have hm := signed8_range m
  have hc := cin.toNat_le
  rw [signed8_eq_toInt] at ha hm
  rw [addWithCarry_overflow, decide_eq_true_iff, addWithCarry_r_toInt, Int.bmod_def]
  omega

/-- The equivalent form R135 derives: the same comparison of signs, on bit 7. -/
theorem addWithCarry_overflow_bits : (addWithCarry a m cin).overflow =
    ((a ^^^ (addWithCarry a m cin).r) &&& (m ^^^ (addWithCarry a m cin).r)).getLsbD 7 := by
  rw [BitVec.getLsbD_and, BitVec.getLsbD_xor, BitVec.getLsbD_xor, Bool.eq_iff_iff, addWithCarry_overflow_iff_signs]
  simp only [getLsbD_seven_eq_neg, Bool.and_eq_true, Bool.xor_iff_ne, ne_eq, decide_eq_decide]

/-! ## The complemented operand: A - M - (1 - C) -/

theorem addWithCarry_complement_r_toNat :
    ((addWithCarry a (m ^^^ 0xFF) cin).r.toNat : Int) = ((a.toNat : Int) - m.toNat - (1 - cin.toNat)) % 256 := by
  rw [addWithCarry_r_toNat, complement_toNat]
  omega

theorem addWithCarry_complement_carry : (addWithCarry a (m ^^^ 0xFF) cin).carry =
    decide ((0 : Int) ≤ (a.toNat : Int) - m.toNat - (1 - cin.toNat)) := by
  rw [addWithCarry_carry, complement_toNat, decide_eq_decide]
  omega

theorem addWithCarry_complement_overflow : (addWithCarry a (m ^^^ 0xFF) cin).overflow =
    decide (a.toInt - m.toInt - (1 - cin.toNat) < -128 ∨ 127 < a.toInt - m.toInt - (1 - cin.toNat)) := by
  have signedDifference : a.toInt + (-1 - m.toInt) + cin.toNat = a.toInt - m.toInt - (1 - cin.toNat) := by ring
  rw [addWithCarry_overflow, complement_toInt, signedDifference]

end

theorem State.advance_takeSum (s : State) (q : Sum) (n : Nat) :
    (s.takeSum q).advance n = { s with
      a := q.r
      p := { nz s.p q.r with c := q.carry, v := q.overflow }
      pc := s.pc + BitVec.ofNat 16 n } := rfl

end Sys2Proof.Machine

/-! PROOFS. The obligations of 43_arithmetic_logic.md. -/

namespace Sys2Proof.Proofs

open Sys2Proof.Laws Sys2Proof.Machine Sys2Proof.Statements

/-- Settles O5: each part is one law of the adder. -/
theorem adderGivesSumCarryOverflow : Obligations.AdderGivesSumCarryOverflow := by
  refine fun a m cin => ⟨addWithCarry_r_toNat a m cin, ?carry, ?overflow, addWithCarry_overflow_bits a m cin⟩
  case carry => rw [addWithCarry_carry, decide_eq_true_iff]
  case overflow => rw [addWithCarry_overflow, decide_eq_true_iff]

/-- Settles O6: ADC takes the adder's sum of A, the operand and C. -/
theorem adcAddsOperandAndCarry : Obligations.AdcAddsOperandAndCarry := by
  refine ⟨forms_of_perm (by decide +kernel), fun i o s h => ⟨_, addWithCarry_r_toNat .., ?_⟩⟩
  rw [exec_adc h, opAdc, State.advance_takeSum, addWithCarry_carry, addWithCarry_overflow, pcAfter_of_parts h]

/-- Settles O7: SBC takes the adder's sum with the complement of the operand, which is the difference with borrow. -/
theorem sbcSubtractsOperandAndBorrow : Obligations.SbcSubtractsOperandAndBorrow := by
  refine ⟨forms_of_perm (by decide +kernel), fun i o s h => ⟨_, addWithCarry_complement_r_toNat .., ?_⟩⟩
  rw [exec_sbc h, opSbc, State.advance_takeSum, addWithCarry_complement_carry, addWithCarry_complement_overflow,
    pcAfter_of_parts h]

/-- Settles O8: in each form A takes the one bitwise combination, as a load does. -/
theorem logicCombinesWithAccumulator : Obligations.LogicCombinesWithAccumulator := by
  refine ⟨forms_of_perm (by decide +kernel), forms_of_perm (by decide +kernel), forms_of_perm (by decide +kernel),
    fun i o s r => ⟨fun h hr => ?and, fun h hr => ?ora, fun h hr => ?eor⟩⟩
  case and => rw [exec_and h, opAnd, State.advance_loadA, pcAfter_of_parts h, hr]
  case ora => rw [exec_ora h, opOra, State.advance_loadA, pcAfter_of_parts h, hr]
  case eor => rw [exec_eor h, opEor, State.advance_loadA, pcAfter_of_parts h, hr]

end Sys2Proof.Proofs

/-! SUPPORT. The shifter as arithmetic (44_shift_rotate.md R145 to R148), and what a read-modify-write instruction
leaves (40_addressing_modes.md R116, R117). -/

namespace Sys2Proof.Machine

open Sys2Proof.Statements

/-! ## The shifter -/

theorem shiftLeft_r (t : Byte) : (shiftLeft t).r = BitVec.ofNat 8 (t.toNat * 2) := by
  apply BitVec.eq_of_toNat_eq
  simp [shiftLeft, Nat.shiftLeft_eq]

theorem shiftRight_r (t : Byte) : (shiftRight t).r = BitVec.ofNat 8 (t.toNat / 2) := by
  apply BitVec.eq_of_toNat_eq
  simp [shiftRight, Nat.shiftRight_eq_div_pow]
  omega

/-- The shift left vacates bit 0, so putting the carry there is adding it (R147). -/
theorem rotateLeft_r (t : Byte) (c : Bool) : (rotateLeft t c).r = BitVec.ofNat 8 (t.toNat * 2 + c.toNat) := by
  have vacated : t <<< 1 &&& BitVec.ofNat 8 c.toNat = 0#8 := by
    ext k
    cases k <;> cases c <;> simp
  rw [rotateLeft, ← BitVec.add_eq_or_of_and_eq_zero _ _ vacated]
  apply BitVec.eq_of_toNat_eq
  simp [Nat.shiftLeft_eq]

/-- The shift right vacates bit 7, so putting the carry there is adding 128 times it (R148). -/
theorem rotateRight_r (t : Byte) (c : Bool) :
    (rotateRight t c).r = BitVec.ofNat 8 (t.toNat / 2 + 128 * c.toNat) := by
  have vacated : t >>> 1 &&& BitVec.ofNat 8 c.toNat <<< 7 = 0#8 := by
    ext k hk
    interval_cases k <;> simp
  rw [rotateRight, ← BitVec.add_eq_or_of_and_eq_zero _ _ vacated]
  apply BitVec.eq_of_toNat_eq
  simp [Nat.shiftLeft_eq, Nat.shiftRight_eq_div_pow]
  omega

/-! ## Rotation of nine bits -/

theorem getLsbD_rotateLeft_nine (w : BitVec 9) (n : Nat) {k : Nat} (hk : k < 9) :
    (w.rotateLeft n).getLsbD k = w.getLsbD ((k + 9 - n % 9) % 9) := by
  rw [BitVec.getLsbD_rotateLeft]
  by_cases h : k < n % 9
  · have index : (k + 9 - n % 9) % 9 = 9 - n % 9 + k := by omega
    simp only [h, index, decide_true, cond_true]
  · have index : (k + 9 - n % 9) % 9 = k - n % 9 := by omega
    simp only [h, hk, index, decide_true, decide_false, cond_false, Bool.true_and]

theorem rotateLeft_one_rotateLeft (w : BitVec 9) (n : Nat) :
    (w.rotateLeft 1).rotateLeft n = w.rotateLeft (n + 1) := by
  refine BitVec.eq_of_getLsbD_eq fun k hk => ?_
  have index : ((k + 9 - n % 9) % 9 + 9 - 1 % 9) % 9 = (k + 9 - (n + 1) % 9) % 9 := by omega
  rw [getLsbD_rotateLeft_nine _ _ hk, getLsbD_rotateLeft_nine _ _ (Nat.mod_lt _ (by decide)),
    getLsbD_rotateLeft_nine _ _ hk, index]

/-- Nine places are all the way around. -/
theorem rotateLeft_of_mod_eq_zero (w : BitVec 9) {n : Nat} (hn : n % 9 = 0) : w.rotateLeft n = w := by
  refine BitVec.eq_of_getLsbD_eq fun k hk => ?_
  have index : (k + 9 - n % 9) % 9 = k := by omega
  rw [getLsbD_rotateLeft_nine _ _ hk, index]

/-- With the carry above its byte as a ninth bit, ROL is a rotation by one place (R147). -/
theorem cons_rotateLeft (t : Byte) (c : Bool) :
    BitVec.cons (t.getLsbD 7) (rotateLeft t c).r = (BitVec.cons c t).rotateLeft 1 := by
  refine BitVec.eq_of_getLsbD_eq fun k hk => ?_
  rw [getLsbD_rotateLeft_nine _ _ hk]
  simp only [BitVec.getLsbD_cons, rotateLeft, BitVec.getLsbD_or, BitVec.getLsbD_shiftLeft]
  cases c <;> interval_cases k <;> simp

/-! ## Read, modify, write -/

/-- An instruction that writes `r` at its location, the flags and PC leaves what `RmwLeaves` says. -/
theorem rmwLeaves_of_exec {i : Instr} {o : RmwOperand} {s : State} {r : Byte} {p : Flags}
    (h : exec i s = .next { locWrite s (locate s o) r with p := p, pc := pcAfter i s }) : RmwLeaves i o s r p := by
  cases o with
  | accumulator => exact h
  | memory m =>
    exact ⟨_, h, rfl, (s.read_write ..).trans (if_pos rfl), fun a ha => (s.read_write ..).trans (if_neg ha)⟩

/-- A shift or rotate as one record: everything it changes. -/
theorem opShift_eq (f : Byte → Shifted) (o : RmwOperand) (s : State) :
    opShift f o s = { locWrite s (locate s o) (f (rmwOld s o)).r with
      p := { nz s.p (f (rmwOld s o)).r with c := (f (rmwOld s o)).carry }
      pc := s.pc + BitVec.ofNat 16 o.form.mode.length } := by
  cases o <;> rfl

theorem rmwLeaves_of_exec_opShift {i : Instr} {mn : Mnemonic} {o : RmwOperand} {s : State} {f : Byte → Shifted}
    (hparts : i.parts = (mn, o.form)) (hexec : exec i s = .next (opShift f o s)) :
    RmwLeaves i o s (f (rmwOld s o)).r { nz s.p (f (rmwOld s o)).r with c := (f (rmwOld s o)).carry } := by
  apply rmwLeaves_of_exec
  rw [hexec, opShift_eq, pcAfter_of_parts hparts]

/-- No read-modify-write instruction goes through a pointer (R118), so its address depends on X alone. -/
theorem effectiveAddr_eq_of_rmw {i : Instr} {m : MemOperand} {s t : State}
    (hmn : i.mnemonic ∈ [.asl, .lsr, .rol, .ror, .inc, .dec]) (hf : i.form = .memory m) (hx : t.x = s.x) :
    effectiveAddr t m = effectiveAddr s m := by
  cases i with
  | aslZeroPage | lsrZeroPage | rolZeroPage | rorZeroPage | incZeroPage | decZeroPage
  | aslAbsolute | lsrAbsolute | rolAbsolute | rorAbsolute | incAbsolute | decAbsolute =>
    obtain rfl := Form.memory.inj hf
    rfl
  | aslZeroPageX | lsrZeroPageX | rolZeroPageX | rorZeroPageX | incZeroPageX | decZeroPageX
  | aslAbsoluteX | lsrAbsoluteX | rolAbsoluteX | rorAbsoluteX | incAbsoluteX | decAbsoluteX =>
    obtain rfl := Form.memory.inj hf
    simp only [effectiveAddr, hx]
  | _ => simp [Instr.mnemonic, Instr.form, Instr.parts] at hmn hf

/-- The operand of a read-modify-write instruction names, after it, the byte it wrote. -/
theorem exists_next_of_rmwLeaves {i : Instr} {o : RmwOperand} {s : State} {r : Byte} {p : Flags}
    (hmn : i.mnemonic ∈ [.asl, .lsr, .rol, .ror, .inc, .dec]) (hf : i.form = o.form) (h : RmwLeaves i o s r p) :
    ∃ t, exec i s = .next t ∧ rmwOld t o = r ∧ t.p = p := by
  cases o with
  | accumulator => exact ⟨_, h, rfl, rfl⟩
  | memory m =>
    obtain ⟨t, hexec, ht, hr, -⟩ := h
    have hx : t.x = s.x := by rw [ht]
    have hp : t.p = p := by rw [ht]
    exact ⟨t, hexec, by rw [rmwOld, effectiveAddr_eq_of_rmw hmn hf hx, hr], hp⟩

/-! ## Repeated rotation -/

/-- A location's byte with C above it: the nine bits that ROL rotates (R147). -/
def carryAndByte (s : State) (o : RmwOperand) : BitVec 9 := BitVec.cons s.p.c (rmwOld s o)

theorem carryAndByte_inj {s t : State} {o : RmwOperand} (h : carryAndByte t o = carryAndByte s o) :
    rmwOld t o = rmwOld s o ∧ t.p.c = s.p.c := by
  have byte := congrArg (BitVec.setWidth 8) h
  have carry := congrArg BitVec.msb h
  simp only [carryAndByte, BitVec.setWidth_cons, BitVec.msb_cons] at byte carry
  exact ⟨byte, carry⟩

theorem exec_rol_carryAndByte {i : Instr} {o : RmwOperand} (h : i.parts = (.rol, o.form)) (s : State) :
    ∃ t, exec i s = .next t ∧ carryAndByte t o = (carryAndByte s o).rotateLeft 1 := by
  have hmn : i.mnemonic = .rol := congrArg Prod.fst h
  obtain ⟨t, hexec, hr, hp⟩ := exists_next_of_rmwLeaves (by simp [hmn]) (congrArg Prod.snd h)
    (rmwLeaves_of_exec_opShift h (exec_rol h s))
  refine ⟨t, hexec, ?_⟩
  rw [carryAndByte, hr, hp]
  exact cons_rotateLeft _ _

theorem execTimes_rol_carryAndByte {i : Instr} {o : RmwOperand} (h : i.parts = (.rol, o.form)) (n : Nat) (s : State) :
    ∃ t, execTimes i n s = .next t ∧ carryAndByte t o = (carryAndByte s o).rotateLeft n := by
  induction n generalizing s with
  | zero => exact ⟨s, rfl, (rotateLeft_of_mod_eq_zero _ rfl).symm⟩
  | succ n ih =>
    obtain ⟨u, hexec, hu⟩ := exec_rol_carryAndByte h s
    obtain ⟨t, htimes, ht⟩ := ih u
    exact ⟨t, by rw [execTimes, hexec]; exact htimes, by rw [ht, hu, rotateLeft_one_rotateLeft]⟩

end Sys2Proof.Machine

/-! PROOFS. The obligations of 44_shift_rotate.md. -/

namespace Sys2Proof.Proofs

open Sys2Proof.Laws Sys2Proof.Machine Sys2Proof.Statements

/-- Settles O9: the forms are the map's rows, and in each of them the location takes the shifter's result. -/
theorem shiftsMoveOneBitThroughCarry : Obligations.ShiftsMoveOneBitThroughCarry := by
  refine ⟨forms_of_perm (by decide +kernel), forms_of_perm (by decide +kernel),
    fun i o s r => ⟨fun h hr => ?asl, fun h hr => ?lsr⟩⟩
  case asl =>
    rw [hr, ← shiftLeft_r]
    exact rmwLeaves_of_exec_opShift h (exec_asl h s)
  case lsr =>
    rw [hr, ← shiftRight_r]
    exact rmwLeaves_of_exec_opShift h (exec_lsr h s)

/-- Settles O10, as O9, with the shifter given the old carry. -/
theorem rotatesGoThroughTheCarry : Obligations.RotatesGoThroughTheCarry := by
  refine ⟨forms_of_perm (by decide +kernel), forms_of_perm (by decide +kernel),
    fun i o s r => ⟨fun h hr => ?rol, fun h hr => ?ror⟩⟩
  case rol =>
    rw [hr, ← rotateLeft_r]
    exact rmwLeaves_of_exec_opShift h (exec_rol h s)
  case ror =>
    rw [hr, ← rotateRight_r]
    exact rmwLeaves_of_exec_opShift h (exec_ror h s)

/-- Settles O11: each ROL rotates the byte and C by one of nine places, on the same location. -/
theorem nineRotationsRestoreLocationAndCarry : Obligations.NineRotationsRestoreLocationAndCarry := by
  intro i o s h
  obtain ⟨t, htimes, ht⟩ := execTimes_rol_carryAndByte h 9 s
  exact ⟨t, htimes, carryAndByte_inj (ht.trans (rotateLeft_of_mod_eq_zero _ rfl))⟩

end Sys2Proof.Proofs

/-! SUPPORT. A step of a byte by one as a sum mod 2^8, and the step of a location as one record
(45_increment_decrement.md R150, R151). -/

namespace Sys2Proof.Machine

open Sys2Proof.Statements

theorem add_one_eq_ofNat (v : Byte) : v + 1 = BitVec.ofNat 8 (v.toNat + 1) := by bv_omega

/-- One less is 255 more, mod 2^8 (R151). -/
theorem sub_one_eq_ofNat (v : Byte) : v - 1 = BitVec.ofNat 8 (v.toNat + 255) := by bv_omega

/-- A step of a location as one record: everything it changes. -/
theorem opStepMemory_eq (f : Byte → Byte) (o : RmwOperand) (s : State) :
    opStepMemory f o s = { locWrite s (locate s o) (f (rmwOld s o)) with
      p := nz s.p (f (rmwOld s o))
      pc := s.pc + BitVec.ofNat 16 o.form.mode.length } := by
  cases o <;> rfl

theorem rmwLeaves_of_exec_opStepMemory {i : Instr} {mn : Mnemonic} {o : RmwOperand} {s : State} {f : Byte → Byte}
    (hparts : i.parts = (mn, o.form)) (hexec : exec i s = .next (opStepMemory f o s)) :
    RmwLeaves i o s (f (rmwOld s o)) (nz s.p (f (rmwOld s o))) := by
  apply rmwLeaves_of_exec
  rw [hexec, opStepMemory_eq, pcAfter_of_parts hparts]

end Sys2Proof.Machine

/-! PROOFS. The obligations of 45_increment_decrement.md. -/

namespace Sys2Proof.Proofs

open Sys2Proof.Laws Sys2Proof.Machine Sys2Proof.Statements

/-- Settles O12: the forms are the map's rows, and in each of them the byte of memory takes its step by one. -/
theorem incAndDecStepMemory : Obligations.IncAndDecStepMemory := by
  refine ⟨forms_of_perm (by decide +kernel), forms_of_perm (by decide +kernel),
    fun i m s r => ⟨fun h hr => ?inc, fun h hr => ?dec⟩⟩
  case inc =>
    rw [hr, ← add_one_eq_ofNat]
    exact rmwLeaves_of_exec_opStepMemory h (exec_inc (o := .memory m) h s)
  case dec =>
    rw [hr, ← sub_one_eq_ofNat]
    exact rmwLeaves_of_exec_opStepMemory h (exec_dec (o := .memory m) h s)

/-- Settles O14: each of the four loads its own register with the register's neighbour. -/
theorem indexRegistersStepByOne : Obligations.IndexRegistersStepByOne := by
  refine ⟨forms_of_perm (by decide +kernel), forms_of_perm (by decide +kernel), forms_of_perm (by decide +kernel),
    forms_of_perm (by decide +kernel), fun s => ⟨?inx, ?iny, ?dex, ?dey⟩⟩
  case inx => exact congrArg Host.Outcome.next (s.advance_loadX (s.x + 1) 1)
  case iny => exact congrArg Host.Outcome.next (s.advance_loadY (s.y + 1) 1)
  case dex => exact congrArg Host.Outcome.next (s.advance_loadX (s.x - 1) 1)
  case dey => exact congrArg Host.Outcome.next (s.advance_loadY (s.y - 1) 1)

end Sys2Proof.Proofs

/-! SUPPORT. The comparator as the order, the equality and the difference of two bytes (46_compare_bit.md R160), and the
whole next state of a comparison and of BIT (R161 to R164). -/

namespace Sys2Proof.Machine

/-- A byte difference as a sum mod 2^8 that never goes below 0 (R8). -/
theorem sub_eq_ofNat (v w : Byte) : v - w = BitVec.ofNat 8 (v.toNat + 256 - w.toNat) := by bv_omega

/-- `Compare` reads Z off the difference; it is the equality of the two bytes. -/
theorem Flags.compare_eq (p : Flags) (reg m : Byte) :
    p.compare reg m = { p with
      c := decide (m.toNat ≤ reg.toNat)
      z := decide (reg = m)
      n := (BitVec.ofNat 8 (reg.toNat + 256 - m.toNat)).getLsbD 7 } := by
  have equal : decide (reg - m = 0) = decide (reg = m) := decide_eq_decide.mpr sub_eq_zero
  rw [Flags.compare, Flags.setNZ, equal, sub_eq_ofNat, Flags.setC]

/-- A comparison as one record: everything it changes. -/
theorem opCompare_eq (reg : Byte) (o : ReadOperand) (s : State) :
    opCompare reg o s = { s with
      p := s.p.compare reg (operandValue s o)
      pc := s.pc + BitVec.ofNat 16 o.form.mode.length } := rfl

/-- BIT as one record: everything it changes. -/
theorem opBit_eq (m : MemOperand) (s : State) :
    opBit m s = { s with
      p := s.p.bitTest s.a (s.read (effectiveAddr s m))
      pc := s.pc + BitVec.ofNat 16 m.mode.length } := rfl

end Sys2Proof.Machine

/-! PROOFS. The obligations of 46_compare_bit.md. -/

namespace Sys2Proof.Proofs

open Sys2Proof.Laws Sys2Proof.Machine Sys2Proof.Statements

/-- Settles O15: the forms are the map's rows, and in each of them the register is compared with the operand. -/
theorem comparesSetOrderFlags : Obligations.ComparesSetOrderFlags := by
  refine ⟨forms_of_perm (by decide +kernel), forms_of_perm (by decide +kernel), forms_of_perm (by decide +kernel), ?_⟩
  rintro i o s reg (⟨h, rfl⟩ | ⟨h, rfl⟩ | ⟨h, rfl⟩)
  case inl => rw [exec_cmp h, opCompare_eq, Flags.compare_eq, pcAfter_of_parts h]
  case inr.inl => rw [exec_cpx h, opCompare_eq, Flags.compare_eq, pcAfter_of_parts h]
  case inr.inr => rw [exec_cpy h, opCompare_eq, Flags.compare_eq, pcAfter_of_parts h]

/-- Settles O16: the forms are the map's rows, and in both of them the byte of memory is tested against A. -/
theorem bitTestsMemoryAgainstAccumulator : Obligations.BitTestsMemoryAgainstAccumulator := by
  refine ⟨forms_of_perm (by decide +kernel), fun i m s h => ?_⟩
  rw [exec_bit h, pcAfter_of_parts h]
  exact congrArg Host.Outcome.next (opBit_eq m s)

end Sys2Proof.Proofs

/-! SUPPORT. The whole next state where the flags are replaced and PC advances. -/

namespace Sys2Proof.Machine

/-- New flags and an advanced PC as one record: everything they change. -/
theorem State.advance_setFlags (s : State) (q : Flags) (n : Nat) :
    (s.setFlags q).advance n = { s with p := q, pc := s.pc + BitVec.ofNat 16 n } := rfl

end Sys2Proof.Machine

/-! PROOFS. The obligation of 47_flag.md. -/

namespace Sys2Proof.Proofs

open Sys2Proof.Laws Sys2Proof.Machine Sys2Proof.Statements

/-- Settles O17: the forms are the map's rows, and each of the seven replaces the flags by the old ones with its own flag
written. -/
theorem flagInstructionsWriteOneFlag : Obligations.FlagInstructionsWriteOneFlag := by
  refine ⟨forms_of_perm (by decide +kernel), forms_of_perm (by decide +kernel), forms_of_perm (by decide +kernel),
    forms_of_perm (by decide +kernel), forms_of_perm (by decide +kernel), forms_of_perm (by decide +kernel),
    forms_of_perm (by decide +kernel), fun s => ⟨?clc, ?sec, ?cli, ?sei, ?cld, ?sed, ?clv⟩⟩
  case clc => exact congrArg Host.Outcome.next (s.advance_setFlags (s.p.setC false) 1)
  case sec => exact congrArg Host.Outcome.next (s.advance_setFlags (s.p.setC true) 1)
  case cli => exact congrArg Host.Outcome.next (s.advance_setFlags (s.p.setI false) 1)
  case sei => exact congrArg Host.Outcome.next (s.advance_setFlags (s.p.setI true) 1)
  case cld => exact congrArg Host.Outcome.next (s.advance_setFlags (s.p.setD false) 1)
  case sed => exact congrArg Host.Outcome.next (s.advance_setFlags (s.p.setD true) 1)
  case clv => exact congrArg Host.Outcome.next (s.advance_setFlags (s.p.setV false) 1)

end Sys2Proof.Proofs

/-! SUPPORT. The branch, on the offset as its byte stands for it (48_branch.md R175). -/

namespace Sys2Proof.Machine

open Sys2Proof.Laws Sys2Proof.Statements

/-- The offset of a branch is its byte, sign-extended (R86). -/
theorem offsetWord_signed8 (v : Byte) : offsetWord (signed8 v) = v.signExtend 16 := by
  rw [signed8_eq_toInt]
  rfl

/-- A branch as one record: it writes PC alone. -/
theorem branchIf_signed8 (c : Bool) (b1 : Byte) (s : State) :
    branchIf c (signed8 b1) s = { s with pc := if c then s.pc + 2 + b1.signExtend 16 else s.pc + 2 } := by
  rw [← offsetWord_signed8]
  cases c <;> rfl

/-- A byte whose row takes an offset, with an instruction that branches on the mnemonic's condition, is that branch. The
row is looked up in the byte's own part of the grid. -/
theorem branchIs_of_lookup {op : Byte} {branch : Int → Instr} {mn : Mnemonic}
    (row : lookupOpcode op (gridRows.getD (op.toNat / 16) []) = some (.offset branch))
    (hexec : ∀ k s, exec (branch k) s = .next (branchIf (branchTaken s.p mn) k s)) : BranchIs op branch mn := by
  refine ⟨fun b1 b2 => ?_, fun b1 s => ?_⟩
  · rw [decode, lookupOpcode_opcodeMap, row]
    rfl
  · rw [hexec, branchIf_signed8]

end Sys2Proof.Machine

/-! PROOFS. The obligation of 48_branch.md. -/

namespace Sys2Proof.Proofs

open Sys2Proof.Machine

/-- Settles O18: each of the eight bytes has a row with an offset, and its instruction tests the one flag. -/
theorem branchesTestOneFlag : Obligations.BranchesTestOneFlag :=
  ⟨branchIs_of_lookup rfl fun _ _ => rfl, branchIs_of_lookup rfl fun _ _ => rfl,
    branchIs_of_lookup rfl fun _ _ => rfl, branchIs_of_lookup rfl fun _ _ => rfl,
    branchIs_of_lookup rfl fun _ _ => rfl, branchIs_of_lookup rfl fun _ _ => rfl,
    branchIs_of_lookup rfl fun _ _ => rfl, branchIs_of_lookup rfl fun _ _ => rfl⟩

end Sys2Proof.Proofs

/-! SUPPORT. The whole next state of the jumps, the pushes and pulls, and BRK's entry and return
(49_jump_stack_system.md), and what a pull takes back after a push. -/

namespace Sys2Proof.Machine

open Sys2Proof.Statements

/-! ## The status byte -/

/-- The status byte as the sum of its bits' weights; U and B always count (R25, R26). -/
theorem Flags.pack_toNat (p : Flags) :
    p.pack.toNat = 128 * p.n.toNat + 64 * p.v.toNat + 32 + 16 + 8 * p.d.toNat + 4 * p.i.toNat + 2 * p.z.toNat
      + p.c.toNat := by
  obtain ⟨n, v, d, i, z, c⟩ := p
  revert n v d i z c
  decide

section
variable (s : State)

/-! ## One byte -/

theorem State.advance_push (v : Byte) (n : Nat) :
    (s.push v).advance n = { s with
      mem := ((s.push v).advance n).mem
      sp := s.sp - 1
      pc := s.pc + BitVec.ofNat 16 n } := rfl

/-- A pushed byte is at the SP it was pushed at, and no other byte has changed (R57). -/
theorem State.read_advance_push (v : Byte) (n : Nat) :
    ((s.push v).advance n).read (stackAddr s.sp) = v ∧
      ∀ a, a ≠ stackAddr s.sp → ((s.push v).advance n).read a = s.read a :=
  ⟨(s.read_push v _).trans (if_pos rfl), fun a ha => (s.read_push v a).trans (if_neg ha)⟩

/-- A pull takes back the byte just pushed, whatever SP is. -/
theorem State.pull_advance_push (v : Byte) (n : Nat) : ((s.push v).advance n).pull.1 = v := by
  have back : s.sp - 1 + 1 = s.sp := by bv_omega
  rw [State.pull_fst, State.advance_sp, State.push_sp, back]
  exact (s.read_advance_push v n).1

/-- PLP undoes PHP but for the stack byte (R191). -/
theorem State.plp_php :
    (((s.push s.p.pack).advance 1).pull.2.setFlags (Flags.unpack ((s.push s.p.pack).advance 1).pull.1)).advance 1 =
      { s with mem := ((s.push s.p.pack).advance 1).mem, pc := s.pc + 2 } := by
  have sp : s.sp - 1 + 1 = s.sp := by bv_omega
  have pc : s.pc + 1 + 1 = s.pc + 2 := by bv_omega
  rw [State.pull_advance_push, Flags.unpack_pack]
  apply State.eq_of_fields
  case hsp => exact sp
  case hpc => exact pc
  all_goals simp

/-! ## Words -/

theorem State.pull16_fst_eq :
    s.pull16.1 = join (s.read (stackAddr (s.sp + 2))) (s.read (stackAddr (s.sp + 1))) := by
  have second : s.sp + 1 + 1 = s.sp + 2 := by bv_omega
  rw [State.pull16_fst, second]

/-- JSR as one record: everything it changes. -/
theorem State.jump_push16 (w target : Addr) :
    (s.push16 w).jump target = { s with mem := (s.push16 w).mem, sp := s.sp - 2, pc := target } := by
  have sp : s.sp - 1 - 1 = s.sp - 2 := by bv_omega
  rw [← sp]
  rfl

/-- RTS as one record: everything it changes. -/
theorem State.jump_pull16 (target : Addr) : s.pull16.2.jump target = { s with sp := s.sp + 2, pc := target } := by
  have sp : s.sp + 1 + 1 = s.sp + 2 := by bv_omega
  rw [← sp]
  rfl

theorem State.read_push16_of_ne (w : Addr) {a : Addr} (high : a ≠ stackAddr s.sp) (low : a ≠ stackAddr (s.sp - 1)) :
    (s.push16 w).read a = s.read a := by
  rw [State.read_push16, if_neg low, if_neg high]

/-- `Pull16` takes back the word that `Push16` left, whatever SP is (R58). -/
theorem State.pull16_push16 (w target : Addr) : ((s.push16 w).jump target).pull16.1 = w := by
  have low : s.sp - 1 - 1 + 1 = s.sp - 1 := by bv_omega
  have high : s.sp - 1 - 1 + 2 = s.sp := by bv_omega
  obtain ⟨hhigh, hlow⟩ := s.read_push16_pushed w
  rw [State.pull16_fst_eq, State.jump_sp, State.push16_sp, low, high, State.read_jump, State.read_jump, hhigh, hlow,
    join_high_low]

/-- RTS undoes JSR but for the stack bytes: SP is back, and PC is past the pushed word (R192). -/
theorem State.jump_pull16_push16 (w target : Addr) :
    ((s.push16 w).jump target).pull16.2.jump (((s.push16 w).jump target).pull16.1 + 1) =
      { s with mem := (s.push16 w).mem, pc := w + 1 } := by
  have sp : s.sp - 1 - 1 + 1 + 1 = s.sp := by bv_omega
  rw [State.pull16_push16]
  apply State.eq_of_fields
  case hsp => rw [State.jump_sp, State.pull16_snd_sp, State.jump_sp, State.push16_sp, sp]
  all_goals simp

/-! ## BRK's entry and the return from it -/

/-- BRK's frame, byte by byte (R193): the return address above the status byte, and every other byte as it was. -/
theorem State.read_takeBrk_frame :
    s.takeBrk.read (stackAddr s.sp) = highByte (s.pc + 2) ∧
    s.takeBrk.read (stackAddr (s.sp - 1)) = lowByte (s.pc + 2) ∧
    s.takeBrk.read (stackAddr (s.sp - 2)) = s.p.pack ∧
    ∀ a, a ≠ stackAddr s.sp → a ≠ stackAddr (s.sp - 1) → a ≠ stackAddr (s.sp - 2) → s.takeBrk.read a = s.read a := by
  have third : s.sp - 1 - 1 = s.sp - 2 := by bv_omega
  have apart01 : s.sp ≠ s.sp - 1 := by bv_omega
  have apart02 : s.sp ≠ s.sp - 2 := by bv_omega
  have apart12 : s.sp - 1 ≠ s.sp - 2 := by bv_omega
  simp only [State.read_takeBrk, third, stackAddr_inj, apart01, apart02, apart12, if_true, if_false, true_and]
  intro a high low status
  rw [if_neg status, if_neg low, if_neg high]

/-- BRK as one record: everything it changes (R194). -/
theorem State.endRunByBrk_takeBrk_eq :
    s.takeBrk.endRunByBrk = { s with
      mem := s.takeBrk.endRunByBrk.mem
      sp := s.sp - 3
      p := s.p.setI true
      pc := s.read16 0xFFFE
      run := if s.run = .running ∧ s.config.continueAfterBrk = false then .halted .brk else s.run } := by
  have sp : s.sp - 1 - 1 - 1 = s.sp - 3 := by bv_omega
  apply State.eq_of_fields
  case hsp => rw [State.endRunByBrk_sp, State.takeBrk_sp, sp]
  all_goals simp [State.takeBrk_pc, State.endRunByBrk_run]

/-- RTI as one record: everything it changes (R195). -/
theorem State.returnFromBrk_eq :
    s.returnFromBrk = { s with
      sp := s.sp + 3
      p := Flags.unpack (s.read (stackAddr (s.sp + 1)))
      pc := join (s.read (stackAddr (s.sp + 3))) (s.read (stackAddr (s.sp + 2))) } := by
  have second : s.sp + 1 + 1 = s.sp + 2 := by bv_omega
  have third : s.sp + 2 + 1 = s.sp + 3 := by bv_omega
  rw [← third, ← second]
  rfl

/-- The return from a BRK's entry undoes it but for the stack bytes (R193): the status byte is pulled from where it was
pushed last, and the return address, PC + 2, with no + 1. -/
theorem State.returnFromBrk_takeBrk :
    s.takeBrk.returnFromBrk = { s with mem := s.takeBrk.mem, pc := s.pc + 2 } := by
  obtain ⟨high, low, status, -⟩ := s.read_takeBrk_frame
  have sp0 : s.sp - 1 - 1 - 1 + 3 = s.sp := by bv_omega
  have sp1 : s.sp - 1 - 1 - 1 + 2 = s.sp - 1 := by bv_omega
  have sp2 : s.sp - 1 - 1 - 1 + 1 = s.sp - 2 := by bv_omega
  rw [State.returnFromBrk_eq, State.takeBrk_sp, sp0, sp1, sp2, high, low, status, Flags.unpack_pack, join_high_low]
  apply State.eq_of_fields <;> simp

end

/-! ## Two steps of a run that goes on -/

/-- A step of a running machine, with halt_req 0, is the decoded instruction. -/
theorem eq_meaning_of_step {s t : State} {i : Instr} (hr : s.run = .running) (hq : s.haltReq = false)
    (hi : decode s.fetch.op s.fetch.b1 s.fetch.b2 = .ok i) (h : step s = .next t) :
    t = meaning s i.form i.mnemonic := by
  rw [step_of_decode hr hi, State.sampleHaltReq_eq, meaning_haltReq, hq] at h
  simpa using (Host.Outcome.next.inj h).symm

theorem decode_rts {op : Byte} (h : op = 0x60) (b1 b2 : Byte) : decode op b1 b2 = .ok .rts := by
  subst h
  rfl

theorem decode_brk {op : Byte} (h : op = 0x00) (b1 b2 : Byte) : decode op b1 b2 = .ok .brk := by
  subst h
  rfl

theorem decode_rti {op : Byte} (h : op = 0x40) (b1 b2 : Byte) : decode op b1 b2 = .ok .rti := by
  subst h
  rfl

end Sys2Proof.Machine

/-! PROOFS. The obligations of 49_jump_stack_system.md. -/

namespace Sys2Proof.Proofs

open Sys2Proof.Laws Sys2Proof.Machine Sys2Proof.Statements

/-- Settles O19: JMP writes PC alone, and the two bytes of a pointer are those of its operand. -/
theorem jumpsGoToTheirTarget : Obligations.JumpsGoToTheirTarget := by
  refine ⟨forms_of_perm (by decide +kernel), fun b1 b2 s => ⟨rfl, ?_⟩⟩
  have target : indirectTarget s (join b2 b1) = join (s.read (join b2 (b1 + 1))) (s.read (join b2 b1)) := by
    rw [indirectTarget, highByte_join, lowByte_join]
  rw [← target]
  rfl

/-- Settles O20: JSR is a `Push16` of PC + 2 and a jump. -/
theorem jsrPushesReturnAddressAndJumps : Obligations.JsrPushesReturnAddressAndJumps := by
  refine ⟨forms_of_perm (by decide +kernel), fun target s => ?_⟩
  obtain ⟨high, low⟩ := s.read_push16_pushed (s.pc + 2)
  refine ⟨_, rfl, s.jump_push16 (s.pc + 2) target, ?_⟩
  simp only [State.read_jump]
  exact ⟨high, low, fun a => s.read_push16_of_ne (s.pc + 2)⟩

/-- Settles O21: RTS is a `Pull16` and a jump past the pulled address. -/
theorem rtsReturnsToPulledAddressPlusOne : Obligations.RtsReturnsToPulledAddressPlusOne := by
  refine ⟨forms_of_perm (by decide +kernel), fun s => ?_⟩
  rw [← State.pull16_fst_eq, ← State.jump_pull16]
  rfl

/-- Settles O22: the RTS pulls the word that the JSR pushed. -/
theorem jsrThenRtsComesBackBalanced : Obligations.JsrThenRtsComesBackBalanced := by
  intro s t u hr hq hjsr hs hrts ht
  obtain rfl : t = (s.push16 (s.pc + 2)).jump _ := eq_meaning_of_step hr hq (decode_jsr hjsr _ _) hs
  have back := (eq_meaning_of_step (s := (s.push16 (s.pc + 2)).jump _) hr hq (decode_rts hrts _ _) ht).trans
    (s.jump_pull16_push16 (s.pc + 2) _)
  have past : s.pc + 2 + 1 = s.pc + 3 := by bv_omega
  rw [past] at back
  subst back
  exact ⟨rfl, fun a => s.read_push16_of_ne (s.pc + 2)⟩

/-- Settles O23: PHA is a push and PLA a pull into A. -/
theorem phaAndPlaMoveOneByte : Obligations.PhaAndPlaMoveOneByte := by
  refine ⟨forms_of_perm (by decide +kernel), forms_of_perm (by decide +kernel), fun s => ⟨?pha, rfl⟩⟩
  exact ⟨_, rfl, s.advance_push s.a 1, s.read_advance_push s.a 1⟩

/-- Settles O24: PHP is a push of the status byte, and PLP takes the flags back from the byte it pulls. -/
theorem phpPushesTheStatusByteForPlp : Obligations.PhpPushesTheStatusByteForPlp := by
  refine ⟨forms_of_perm (by decide +kernel), fun s => ?php, fun s t u ht hu => ?plp⟩
  case php =>
    obtain ⟨pushed, frame⟩ := s.read_advance_push s.p.pack 1
    exact ⟨_, rfl, s.advance_push s.p.pack 1, by rw [pushed, Flags.pack_toNat], frame⟩
  case plp =>
    obtain rfl : t = (s.push s.p.pack).advance 1 := eq_meaning_of_exec ht
    obtain rfl := eq_meaning_of_exec hu
    exact s.plp_php

/-- Settles O25: PLP is a pull into the six writable flags; U and B are constants. -/
theorem plpRestoresTheWritableFlags : Obligations.PlpRestoresTheWritableFlags := by
  refine ⟨forms_of_perm (by decide +kernel), ?_⟩
  rintro s _ rfl
  exact ⟨_, rfl, rfl, rfl, rfl⟩

/-- Settles O26: BRK is its entry, which leaves the frame, and the end of the run, which leaves memory alone. -/
theorem brkTakesItsTrapEntry : Obligations.BrkTakesItsTrapEntry := by
  refine ⟨forms_of_perm (by decide +kernel), fun s => ⟨_, rfl, s.endRunByBrk_takeBrk_eq, ?_⟩⟩
  simp only [State.read_endRunByBrk, ← Flags.pack_toNat, BitVec.toNat_inj]
  exact s.read_takeBrk_frame

/-- Settles O27: RTI is the return from BRK's entry; U and B are constants. -/
theorem rtiRestoresStatusAndPc : Obligations.RtiRestoresStatusAndPc := by
  refine ⟨forms_of_perm (by decide +kernel), ?_⟩
  rintro s _ rfl
  exact ⟨_, rfl, s.returnFromBrk_eq, rfl, rfl⟩

/-- Settles O28: a continuing BRK is its entry alone, and RTI undoes it but for the stack bytes. -/
theorem brkThenRtiComesBack : Obligations.BrkThenRtiComesBack := by
  intro s t u hr hq hgo hbrk hs hrti ht
  have entry : s.takeBrk.endRunByBrk = s.takeBrk := by
    rw [State.endRunByBrk, State.takeBrk_config, if_pos hgo]
  obtain rfl : t = s.takeBrk :=
    (eq_meaning_of_step (i := .brk) hr hq (decode_brk hbrk _ _) hs).trans entry
  obtain rfl : u = s.takeBrk.returnFromBrk :=
    eq_meaning_of_step (i := .rti) (s.takeBrk_run.trans hr) (s.takeBrk_haltReq.trans hq) (decode_rti hrti _ _) ht
  obtain ⟨-, -, -, frame⟩ := s.read_takeBrk_frame
  exact ⟨s.returnFromBrk_takeBrk, fun a high low status =>
    (State.read_congr s.takeBrk.returnFromBrk_mem a).trans (frame a high low status)⟩

/-- Settles O29: NOP is an `Advance`. -/
theorem nopOnlyAdvances : Obligations.NopOnlyAdvances :=
  ⟨forms_of_perm (by decide +kernel), fun _ => rfl⟩

end Sys2Proof.Proofs

/-! SUPPORT. A step by the opcode byte alone, the run state it leaves, and RUN by its steps (60_exceptions.md R200 to
R215). -/

namespace Sys2Proof.Laws

open Sys2Proof.Machine Sys2Proof.Statements

theorem decodeOpcode_of_decode {op b1 b2 : Byte} {i : Instr} (h : decode op b1 b2 = .ok i) :
    decodeOpcode op = some (i.mnemonic, i.mode) := by
  obtain ⟨cell, -, hl, hok⟩ | ⟨-, herr⟩ := decode_cases op b1 b2
  · obtain rfl := Except.ok.inj (hok.symm.trans h)
    exact decodeOpcode_of_lookup hl b1 b2
  · exact absurd (herr.symm.trans h) (by simp)

theorem decodeOpcode_of_reject {op b1 b2 : Byte} {e : DecodeReject} (h : decode op b1 b2 = .error e) :
    decodeOpcode op = none := by
  obtain ⟨cell, -, -, hok⟩ | ⟨hl, -⟩ := decode_cases op b1 b2
  · exact absurd (hok.symm.trans h) (by simp)
  · exact decodeOpcode_eq_none hl

theorem decodeOpcode_eq_none_iff (op : Byte) : decodeOpcode op = none ↔ op ∈ illegalBytes := by
  rw [← Option.isNone_iff_eq_none, ← Option.not_isSome, isSome_decodeOpcode, Option.not_isSome,
    Option.isNone_iff_eq_none, lookupOpcode_eq_none_iff]

end Sys2Proof.Laws

namespace Sys2Proof.Machine

open Sys2Proof.Laws Sys2Proof.Statements

/-! ## STEP -/

theorem step_of_not_running {s : State} (hr : s.run ≠ .running) : step s = .next s := by
  cases h : s.run with
  | running => exact absurd h hr
  | idle | halted => simp only [step, h]

theorem stepReport_of_not_running {s : State} (hr : s.run ≠ .running) (t : State) :
    stepReport s t = .notRunning s.run := by
  cases h : s.run with
  | running => exact absurd h hr
  | idle | halted => simp only [stepReport, h]

/-- Every step answers a next state, in every run state and at every byte (R202). -/
theorem step_total (s : State) : ∃ t, step s = .next t := by
  by_cases hr : s.run = .running
  · cases hd : decode s.fetch.op s.fetch.b1 s.fetch.b2 with
    | ok i => exact ⟨_, step_of_decode hr hd⟩
    | error e => exact ⟨_, step_of_reject hr hd⟩
  · exact ⟨s, step_of_not_running hr⟩

/-- What a running machine's step can do, by its opcode byte: the IllegalOpcode halt, or a legal instruction and the
sample of halt_req. -/
theorem step_cases_of_running {s t : State} (hr : s.run = .running) (h : step s = .next t) :
    (decodeOpcode (s.read s.pc) = none ∧ t = s.raiseIllegalOpcode (s.read s.pc)) ∨
    ∃ i : Instr, decodeOpcode (s.read s.pc) = some (i.mnemonic, i.mode) ∧
      t = (meaning s i.form i.mnemonic).sampleHaltReq := by
  obtain ⟨hn, -⟩ | ⟨-, hd, rfl⟩ | ⟨-, i, hd, rfl⟩ := step_cases h
  · exact absurd hr hn
  · exact .inl ⟨decodeOpcode_of_reject hd, rfl⟩
  · exact .inr ⟨i, decodeOpcode_of_decode hd, rfl⟩

/-! ## The run state after a step -/

theorem State.sampleHaltReq_run (s : State) : s.sampleHaltReq.run =
    if s.run = .running ∧ s.haltReq = true then .halted .cancelled else s.run := by
  rw [State.sampleHaltReq_eq]
  split <;> rfl

/-- No instruction but BRK touches the run state (R212). -/
theorem meaning_run (s : State) (f : Form) {mn : Mnemonic} (h : mn ≠ .brk) : (meaning s f mn).run = s.run := by
  cases mn with
  | brk => exact absurd rfl h
  | _ => simp [meaning]

/-- After a legal instruction: a BRK that ends the run comes before the sample of halt_req, which finds the run ended
(R207, R212, R213). -/
theorem run_after_instruction {s : State} (hr : s.run = .running) (f : Form) (mn : Mnemonic) :
    (meaning s f mn).sampleHaltReq.run =
      if mn = .brk ∧ s.config.continueAfterBrk = false then .halted .brk
      else if s.haltReq = true then .halted .cancelled
      else .running := by
  rw [State.sampleHaltReq_run, meaning_haltReq]
  by_cases hbrk : mn = .brk
  · subst hbrk
    have ended : (meaning s f .brk).run = if s.config.continueAfterBrk = false then .halted .brk else .running := by
      simp only [meaning, State.endRunByBrk_run, State.takeBrk_run, State.takeBrk_config, hr, true_and]
    by_cases hgo : s.config.continueAfterBrk = false <;> simp [ended, hgo]
  · simp [meaning_run s f hbrk, hr, hbrk]

/-- No legal instruction ends in an error (R200). -/
theorem not_haltedByError_after_instruction {s : State} (hr : s.run = .running) (f : Form) (mn : Mnemonic) :
    ¬ (meaning s f mn).sampleHaltReq.haltedByError := by
  rintro ⟨op, pc, h⟩
  rw [run_after_instruction hr] at h
  split_ifs at h
  all_goals simp at h

/-- An error halt is an old one, or was raised at an illegal opcode byte (R200, R201). -/
theorem haltedByError_after_step {s t : State} (h : step s = .next t) (ht : t.haltedByError) :
    s.haltedByError ∨ (s.run = .running ∧ decodeOpcode (s.read s.pc) = none) := by
  by_cases hr : s.run = .running
  · obtain ⟨hd, -⟩ | ⟨i, -, rfl⟩ := step_cases_of_running hr h
    · exact .inr ⟨hr, hd⟩
    · exact absurd ht (not_haltedByError_after_instruction hr _ _)
  · obtain rfl := Host.Outcome.next.inj ((step_of_not_running hr).symm.trans h)
    exact .inl ht

/-! ## RUN -/

theorem runFor_of_not_running {s : State} (hr : s.run ≠ .running) (k : Nat) : runFor k s = .next s := by
  cases k with
  | zero => rfl
  | succ k =>
    cases h : s.run with
    | running => exact absurd h hr
    | idle | halted => simp only [runFor, h]

/-- RUN goes on from where its first step leads; outside Running that is where it is. -/
theorem runFor_succ {s t : State} (h : step s = .next t) (k : Nat) : runFor (k + 1) s = runFor k t := by
  by_cases hr : s.run = .running
  · simp only [runFor, hr, h]
  · obtain rfl := Host.Outcome.next.inj ((step_of_not_running hr).symm.trans h)
    rw [runFor_of_not_running hr, runFor_of_not_running hr]

theorem core_run_succ {M : Host.Core} {s t : M.State} (h : M.step s = .next t) (k : Nat) :
    M.run (k + 1) s = M.run k t := by
  simp only [Host.Core.run, h]

/-- RUN is the host's own iteration of STEP: a step outside Running changes nothing (R215). -/
theorem runFor_eq_run (k : Nat) (s : State) : runFor k s = Host.Core.run Sys2Proof.core k s := by
  induction k generalizing s with
  | zero => rfl
  | succ k ih =>
    obtain ⟨t, ht⟩ := step_total s
    exact (runFor_succ ht k).trans ((ih t).trans (core_run_succ (M := Sys2Proof.core) ht k).symm)

/-- A run that has ended within `k` steps has ended there for good. -/
theorem runFor_add_of_ended {s t : State} {k : Nat} (h : runFor k s = .next t) (ht : t.run ≠ .running) (n : Nat) :
    runFor (k + n) s = .next t := by
  induction k generalizing s with
  | zero =>
    obtain rfl := Host.Outcome.next.inj h
    exact runFor_of_not_running ht _
  | succ k ih =>
    obtain ⟨u, hu⟩ := step_total s
    rw [runFor_succ hu] at h
    rw [Nat.add_right_comm, runFor_succ hu]
    exact ih h

/-- A run whose fetches are all legal keeps free of an error halt, step by step. -/
theorem safeRun_of_legal {s : State} (hs : ¬ s.haltedByError)
    (legal : ∀ k t, runFor k s = .next t → t.run = .running → decodeOpcode (t.read t.pc) ≠ none) : SafeRun s := by
  intro k
  induction k generalizing s with
  | zero => exact ⟨s, rfl, hs⟩
  | succ k ih =>
    obtain ⟨u, hu⟩ := step_total s
    have safe : ¬ u.haltedByError := fun hbad =>
      (haltedByError_after_step hu hbad).elim hs fun ⟨hr, hd⟩ => legal 0 s rfl hr hd
    rw [runFor_succ hu]
    exact ih safe fun n t ht => legal (n + 1) t ((runFor_succ hu n).trans ht)

end Sys2Proof.Machine

/-! PROOFS. The obligations of 60_exceptions.md. -/

namespace Sys2Proof.Proofs

open Sys2Proof.Laws Sys2Proof.Machine Sys2Proof.Statements

/-- Settles O31: the bytes that do not decode are those of the list, and no instruction of the others ends in an error. -/
theorem illegalOpcodeHaltsAndChangesNothing : Obligations.IllegalOpcodeHaltsAndChangesNothing := by
  intro s hr
  refine ⟨fun hlisted => ?_, fun hlegal t ht hbad => ?_⟩
  · obtain ⟨t, ht⟩ := step_total s
    obtain ⟨-, rfl⟩ | ⟨i, hd, -⟩ := step_cases_of_running hr ht
    · exact ht
    · rw [(decodeOpcode_eq_none_iff _).2 hlisted] at hd
      cases hd
  · obtain hold | ⟨-, hd⟩ := haltedByError_after_step ht hbad
    · obtain ⟨op, pc, hrun⟩ := hold
      exact absurd (hr.symm.trans hrun) (by simp)
    · exact hlegal ((decodeOpcode_eq_none_iff _).1 hd)

/-- Settles O32: STEP runs a cycle in the Running state alone. -/
theorem stepOutsideRunningChangesNothing : Obligations.StepOutsideRunningChangesNothing :=
  fun s hr => ⟨step_of_not_running hr, stepReport_of_not_running hr s⟩

/-- Settles O33: an illegal byte halts the run before anything else; a BRK is executed before halt_req is sampled. -/
theorem haltReasonsHaveOnePriority : Obligations.HaltReasonsHaveOnePriority := by
  intro s t hr h
  obtain ⟨hd, rfl⟩ | ⟨i, hd, rfl⟩ := step_cases_of_running hr h
  · exact ⟨fun _ => rfl, fun mn mode hlegal => absurd (hd.symm.trans hlegal) (by simp)⟩
  · refine ⟨fun hnone => absurd (hd.symm.trans hnone) (by simp), fun mn mode hlegal => ?_⟩
    obtain ⟨rfl, -⟩ := Prod.mk.inj (Option.some.inj (hd.symm.trans hlegal))
    exact run_after_instruction hr _ _

/-- Settles O34, by induction on the steps watched. -/
theorem runRepeatsStepUntilHalt : Obligations.RunRepeatsStepUntilHalt :=
  ⟨runFor_eq_run, fun k _ hr => runFor_of_not_running hr k, fun _ n _ _ h ht => runFor_add_of_ended h ht n⟩

/-- Settles O35: an error halt needs a fetch of an illegal byte. -/
theorem runsOfLegalBytesAreSafe : Obligations.RunsOfLegalBytesAreSafe :=
  fun _ => safeRun_of_legal

/-- Settles O36: every instruction has a meaning, and so has every byte a step can fetch. -/
theorem noStateAndNoInstructionFaults : Obligations.NoStateAndNoInstructionFaults :=
  ⟨fun i s => ⟨_, exec_eq i s⟩, step_total, fun _ _ => haltedByError_after_step⟩

end Sys2Proof.Proofs

/-! SUPPORT. What the host's commands keep of the invariant (70_reset_and_hazards.md R231, R234). -/

namespace Sys2Proof.Machine

theorem State.inv_load {s : State} (h : s.Inv) (bytes : List Byte) (origin : Addr) : (s.load bytes origin).2.Inv := by
  unfold State.load
  split
  · exact State.inv_placeBytes bytes h origin
  · exact h

/-- Every command keeps memory canonical: LOAD and STEP write memory by single bytes, START and the write of the halt
flag leave it alone. -/
theorem State.inv_command {s t : State} {c : HostCommand} (h : s.Inv) (hc : s.command c = .next t) : t.Inv := by
  cases c with
  | load bytes origin =>
    obtain rfl := Host.Outcome.next.inj hc
    exact State.inv_load h bytes origin
  | start origin pcOverride =>
    obtain rfl := Host.Outcome.next.inj hc
    exact State.inv_congr (State.start_mem s origin pcOverride) h
  | step => exact State.inv_step h hc
  | setHaltReq level =>
    obtain rfl := Host.Outcome.next.inj hc
    exact State.inv_congr (State.setHaltReq_mem s level) h

end Sys2Proof.Machine

/-! PROOFS. The obligations of 70_reset_and_hazards.md. -/

namespace Sys2Proof.Proofs

open Sys2Proof.Machine

/-- Settles O57, by induction on the session: a constructed machine's memory lists nothing, and each command keeps the
canonical form. -/
theorem reachableStatesAreCanonical : Obligations.ReachableStatesAreCanonical := by
  intro s hs
  induction hs with
  | construct init config pc haltReq => exact Memory.nil_wf
  | command s t c _ hc ih => exact State.inv_command ih hc

/-- Settles O59: START writes PC and the run state, and the reset vector is the 16-bit word read at 0xFFFC. -/
theorem startSetsPcAndRunsOnly : Obligations.StartSetsPcAndRunsOnly :=
  fun _ _ _ => ⟨rfl, rfl⟩

end Sys2Proof.Proofs

/-! SUPPORT. A step of a byte of memory and the step back (45_increment_decrement.md, S1 of 95_test_vectors.md). -/

namespace Sys2Proof.Machine

open Sys2Proof.Statements

/-- A canonical memory comes back, as data, when a byte is overwritten and then written as it was: it reads as before,
and the canonical form is unique. -/
theorem Memory.write_back {m : Memory} (h : m.wf) {a : Nat} (ha : a < 65536) (v : Byte) :
    (m.write a v).write a (m.read a) = m := by
  refine Memory.eq_of_read_eq (Memory.write_wf (Memory.write_wf h ha v) ha _) h fun b _ => ?_
  rw [Memory.read_write, Memory.read_write]
  split
  · next hb => rw [hb]
  · rfl

/-- What follows a step of a byte of memory by its inverse, at the address the operand still names. -/
theorem opStepMemory_opStepMemory {f g : Byte → Byte} (inverse : ∀ v, g (f v) = v) {m : MemOperand} {s : State}
    (hs : s.Inv) (same : effectiveAddr (opStepMemory f (.memory m) s) m = effectiveAddr s m) :
    opStepMemory g (.memory m) (opStepMemory f (.memory m) s) = { s with
      p := nz s.p (s.read (effectiveAddr s m))
      pc := s.pc + BitVec.ofNat 16 m.mode.length + BitVec.ofNat 16 m.mode.length } := by
  have stepped : (opStepMemory f (.memory m) s).read (effectiveAddr s m) = f (s.read (effectiveAddr s m)) :=
    (s.read_write ..).trans (if_pos rfl)
  have restored : g (rmwOld (opStepMemory f (.memory m) s) (.memory m)) = s.read (effectiveAddr s m) := by
    rw [rmwOld, same, stepped, inverse]
  rw [opStepMemory_eq, restored, locate, same]
  apply State.eq_of_fields
  case hmem => exact Memory.write_back hs (effectiveAddr s m).isLt _
  all_goals rfl

/-- Two instructions that are such a step and its inverse, on one operand: no INC or DEC goes through a pointer (R118), so
the second one finds the byte the first one wrote. -/
theorem eq_of_step_and_step_back {f g : Byte → Byte} (inverse : ∀ v, g (f v) = v) {i j : Instr} {mn mn' : Mnemonic}
    (hmn : mn ∈ [.inc, .dec]) {m : MemOperand} (hi : i.parts = (mn, .memory m)) (hj : j.parts = (mn', .memory m))
    {s t u : State} (hs : s.Inv) (ht : exec i s = .next t) (hu : exec j t = .next u)
    (first : exec i s = .next (opStepMemory f (.memory m) s))
    (second : ∀ s, exec j s = .next (opStepMemory g (.memory m) s)) :
    u = { s with p := nz s.p (s.read (effectiveAddr s m)), pc := pcAfter i s + BitVec.ofNat 16 j.length } := by
  obtain rfl := Host.Outcome.next.inj (first.symm.trans ht)
  obtain rfl := Host.Outcome.next.inj ((second _).symm.trans hu)
  have rmw : i.mnemonic ∈ [.asl, .lsr, .rol, .ror, .inc, .dec] := by
    rw [Instr.mnemonic, hi]
    exact List.mem_append_right [.asl, .lsr, .rol, .ror] hmn
  rw [pcAfter_of_parts hi, length_of_parts hj]
  exact opStepMemory_opStepMemory inverse hs
    (effectiveAddr_eq_of_rmw rmw (congrArg Prod.snd hi) (opStepMemory_x s f _))

end Sys2Proof.Machine

/-! PROOFS. The law of 45_increment_decrement.md. -/

namespace Sys2Proof.Proofs

open Sys2Proof.Machine Sys2Proof.Statements

/-- Settles O13: DEC is the inverse of INC, and INC that of DEC. -/
theorem incThenDecRestoresMemory : Obligations.IncThenDecRestoresMemory := by
  rintro i j m s t u hs (⟨hi, hj⟩ | ⟨hi, hj⟩) ht hu
  case inl =>
    exact eq_of_step_and_step_back (BitVec.add_sub_cancel · 1) (by decide) hi hj hs ht hu
      (exec_inc (o := .memory m) hi s) (exec_dec (o := .memory m) hj)
  case inr =>
    exact eq_of_step_and_step_back (BitVec.sub_add_cancel · 1) (by decide) hi hj hs ht hu
      (exec_dec (o := .memory m) hi s) (exec_inc (o := .memory m) hj)

end Sys2Proof.Proofs
